-- ==== Sys2Proof/Word.lean ====
section
/-! DEFINITION. The plain words of the model: bytes, frames and the numbers of the manual's Numbering table
(spec/00_scope.md, Numbering). -/

namespace Sys2Proof

/-- A byte on the wire (spec/12, Conventions of the wire). -/
abbrev Byte := BitVec 8

/-- The bytes between a frame's start symbol and its end symbol (spec/12, Frame). -/
abbrev Frame := List Byte

/-- Slots 0 to 63. -/
abbrev SlotNo := Fin 64

/-- Places 0 to 63. -/
abbrev PlaceNo := Fin 64

/-- Strings 0 to 7. -/
abbrev StringNo := Fin 8

/-- Chemistry families 0 to 3. -/
abbrev Family := Fin 4

/-- Grade images 5 to 8, counted from 0: image 5 is 0. -/
abbrev GradeImage := Fin 4

end Sys2Proof
end

