-- ==== Sys2Proof/Syntax.lean ====
section
/-! DEFINITION. The commands of the EZB-3420: one constructor for each row of spec/opcode_table.json.

A directive row carries the tag and the parameter bytes of its frame, the bytes after the directive code
(spec/12, Directive payload). An arrival carries the bytes of its frame. Breaks and departures from idle carry
their polarity and times. Rows whose effect is read wholly from the state carry nothing. -/

namespace Sys2Proof

/-- The two ports of the chain (spec/07). -/
inductive Port where
  | up
  | down
  deriving DecidableEq, Repr

/-- The level a line is held at while it is away from idle (spec/07, Link reset pattern). -/
inductive Polarity where
  | space
  | mark
  deriving DecidableEq, Repr

/-- The commands of the block. Times named `elapsed` are milliseconds of engine time since the step before
(log entry 7); `start`, `stop` and `idle` are microseconds of line time (log entry 15). -/
inductive Instr where
  /-- POWER_ON (R173). -/
  | powerOn
  /-- RESET_LINE: RESET_N returns high (R173). -/
  | resetLine
  /-- START_UP (R174), with the levels ADR4 to ADR0 read during it (R146) and the time it took. -/
  | startUp (straps : BitVec 5) (elapsed : Nat)
  /-- BREAK at UP_RX (R147): held from `start` to `stop`, after `idle` microseconds of idle line. -/
  | lineBreak (pol : Polarity) (start stop idle : Nat)
  /-- DOWN_PORT_ARRIVAL (R141). -/
  | downPortArrival (elapsed : Nat) (bytes : Frame)
  /-- UP_PORT_ARRIVAL (R142). -/
  | upPortArrival (bytes : Frame)
  /-- END_OF_TRANSMISSION on UP_TX (R144). -/
  | endOfTransmission
  /-- DOWN_PORT_TRANSMISSION_END on DN_TX (R143). -/
  | downPortTransmissionEnd
  /-- NODE_SILENCE of a node 1 to 16 (R20). -/
  | nodeSilence (node : Nat) (elapsed : Nat)
  /-- IDENTIFY (R157). -/
  | identify (tag : Byte) (params : List Byte)
  /-- STATUS (R164). -/
  | status (tag : Byte) (params : List Byte)
  /-- STATUS CLEAR (R165). -/
  | statusClear (tag : Byte) (params : List Byte)
  /-- REPORT MASK (R163). -/
  | reportMask (tag : Byte) (params : List Byte)
  /-- RESTART (R151). -/
  | restart (tag : Byte) (params : List Byte)
  /-- BYPASS (R176). -/
  | bypass (tag : Byte) (params : List Byte)
  /-- WAKE (R176). -/
  | wake (tag : Byte) (params : List Byte)
  /-- PURGE ENABLE (R158). -/
  | purgeEnable (tag : Byte) (params : List Byte)
  /-- PURGE (R158, R177). -/
  | purge (tag : Byte) (params : List Byte)
  /-- SEEK (R153). -/
  | seek (tag : Byte) (params : List Byte)
  /-- READ (R154). -/
  | read (tag : Byte) (params : List Byte)
  /-- NEXT (R154). -/
  | next (tag : Byte) (params : List Byte)
  /-- FIELD MASK (R156). -/
  | fieldMask (tag : Byte) (params : List Byte)
  /-- WRITE while the pointer names a read-only table 5 to 8 (R155). -/
  | write (tag : Byte) (params : List Byte)
  /-- WRITE while the pointer names table 0 (R17). -/
  | slotMapWrite (tag : Byte) (params : List Byte)
  /-- WRITE while the pointer names table 1 (R23, R24). -/
  | profileWrite (tag : Byte) (params : List Byte)
  /-- WRITE while the pointer names table 2 (R54, R55). -/
  | curveWrite (tag : Byte) (params : List Byte)
  /-- WRITE while the pointer names table 3 (R88, R89). -/
  | gradeRowWrite (tag : Byte) (params : List Byte)
  /-- WRITE while the pointer names table 4 (R96 to R98). -/
  | bankMapWrite (tag : Byte) (params : List Byte)
  /-- WRITE while the pointer names table 9 (R172). -/
  | settingsWrite (tag : Byte) (params : List Byte)
  /-- EDIT OPEN (R87). -/
  | editOpen (tag : Byte) (params : List Byte)
  /-- EDIT CLOSE (R90). -/
  | editClose (tag : Byte) (params : List Byte)
  /-- EDIT CANCEL (R91). -/
  | editCancel (tag : Byte) (params : List Byte)
  /-- ADMIT (R12). -/
  | admitModule (tag : Byte) (params : List Byte)
  /-- WITHDRAW (R13). -/
  | withdraw (tag : Byte) (params : List Byte)
  /-- CLEAR FIGURES (R14). -/
  | clearFigures (tag : Byte) (params : List Byte)
  /-- PLAN RUN (R116). -/
  | planRun (tag : Byte) (params : List Byte)
  /-- PLAN HOLD (R130). -/
  | planHold (tag : Byte) (params : List Byte)
  /-- PLAN RESUME (R131). -/
  | planResume (tag : Byte) (params : List Byte)
  /-- PLAN ABORT (R132). -/
  | planAbort (tag : Byte) (params : List Byte)
  /-- The opening step of a planning run (R120). -/
  | opening
  /-- The filling step of a planning run (R121, R122). -/
  | filling
  /-- The completion step of a planning run (R126). -/
  | completion
  /-- FIX (R106). -/
  | fix (tag : Byte) (params : List Byte)
  /-- UNFIX (R107). -/
  | unfix (tag : Byte) (params : List Byte)
  /-- FIX ALL (R108). -/
  | fixAll (tag : Byte) (params : List Byte)
  /-- UNFIX ALL (R109). -/
  | unfixAll (tag : Byte) (params : List Byte)
  /-- STORE ENABLE (R167). -/
  | storeEnable (tag : Byte) (params : List Byte)
  /-- STORE DISABLE (R167). -/
  | storeDisable (tag : Byte) (params : List Byte)
  /-- STORE SAVE (R168). -/
  | storeSave (tag : Byte) (params : List Byte)
  /-- SAVE_COMPLETION (R169). -/
  | saveCompletion
  /-- STORE LOAD (R170). -/
  | storeLoad (tag : Byte) (params : List Byte)
  /-- CERTIFY (R171). -/
  | certify (tag : Byte) (params : List Byte)
  /-- CERTIFY_COMPLETION (R171). -/
  | certifyCompletion
  /-- UNKNOWN: a taken directive whose payload is empty or whose code names no directive (R152). -/
  | unknown (tag : Byte) (payload : List Byte)
  /-- RESET_LINE_HELD_LOW (R173). -/
  | resetLineHeldLow
  /-- START_SYMBOL at a receiver (R147, R148). -/
  | startSymbol (port : Port)
  /-- DEPARTURE_FROM_IDLE at UP_RX, shorter than 20 µs (R148). -/
  | departureFromIdle (pol : Polarity) (start stop idle : Nat)
  /-- BREAK_AT_DN_RX (R139). -/
  | breakAtDnRx
  deriving DecidableEq, Repr

end Sys2Proof
end

