-- ==== Sys2Proof/Config.lean ====
section
/-! DEFINITION. What is fixed for the machine: the sizes and limits the manual states, and the constants of one
part that it leaves open. -/

namespace Sys2Proof.Config

/-- The part code (R157). -/
def partCode : Nat := 3420

/-- The silicon revision of the part. The manual names it and gives no value (R157; log entry 3). -/
opaque siliconRevision : Byte

/-- The 64-bit unique number written into image 0 at manufacture. The manual gives no value (R157; log entry 3). -/
opaque uniqueNumber : BitVec 64

/-- The most bytes a frame may hold between its symbols (R139). -/
def maxFrameBytes : Nat := 246

/-- The most bytes a payload may hold (spec/12, Frame). -/
def maxPayload : Nat := 240

/-- Entries of the up forward queue (R143). -/
def upQueueSize : Nat := 8

/-- Entries of the down forward queue (R143). -/
def dnQueueSize : Nat := 4

/-- Entries of the directive queue (R150). -/
def directiveQueueSize : Nat := 4

/-- Entries of the report queue (R161). -/
def reportQueueSize : Nat := 16

/-- Where every 16-bit counter saturates (R164). -/
def counterMax : Nat := 65535

/-- The broadcast-free address an engine takes when its own lies outside 17 to 30 (R146). -/
def defaultAddress : Nat := 30

/-- A departure from idle this long or longer is a break, in microseconds (R147). -/
def breakMicros : Nat := 20

/-- The most time between counted breaks of the link reset pattern, in microseconds (R147). -/
def patternGapMicros : Nat := 1000

/-- The engine time within which start-up completes, in milliseconds (R173). -/
def startUpLimit : Nat := 40

/-- The magnitude a capacity run's accumulator holds at (R35): 2^48. -/
def accumulatorLimit : Int := 281474976710656

end Sys2Proof.Config
end

