-- ==== Sys2Proof/Machine/State.lean ====
section
/-! DEFINITION. Everything the manual gives the engine, as plain data, block by block (spec/00, Block overview), and
the machine right after the power-on trigger. INVENTORY.md lists each piece with the rule that names it. -/

namespace Sys2Proof.Machine

/-- Nothing raises a fault: the manual names no event that stops the engine. Bad frames are counted, forwarded or
dropped (R139, R140) and refused directives are answered (R152). Safe: the type has no constructor. -/
inductive Fault where
  deriving DecidableEq, Repr

/-- Why a command has no meaning. -/
inductive Refusal where
  /-- Raised by exec alone, for a row that is not modelled. Safe: nothing happens. No row raises it. -/
  | notModelled (mnemonic : String)
  deriving DecidableEq, Repr

/-! ## Engine control -/

/-- The engine state (R173 to R176). -/
inductive EngineState where
  | starting
  | active
  | bypass
  deriving DecidableEq, Repr

/-- The restart triggers (R173). -/
inductive RestartCause where
  | powerOn
  | resetLine
  | restartDirective
  | linkReset
  deriving DecidableEq, Repr

/-- What start-up found of the install image (R175). -/
inductive InstallResult where
  | restored
  | conflict
  | invalid
  deriving DecidableEq, Repr

/-! ## Slot records (spec/01, spec/02, spec/03) -/

/-- The figures of a slot (spec/04, R70). -/
inductive FigureKind where
  | cap
  | soh
  | rdc
  | sdr
  | tmax
  | nstep
  deriving DecidableEq, Repr

/-- Why a slot was quarantined (R31). -/
inductive QuarantineReason where
  | highVoltage
  | lowVoltage
  | overTemperature
  deriving DecidableEq, Repr

/-- The phase of a sample or a tracker (R32). -/
inductive Phase where
  | none
  | rest
  | charge
  | discharge
  deriving DecidableEq, Repr

/-- CAP in cAh with its marks (R51). -/
structure CapFigure where
  value : Nat
  clipped : Bool
  saturated : Bool
  deriving DecidableEq, Repr

/-- A figure or a step result that carries a saturated mark (R50, R60). -/
structure MarkedFigure where
  value : Nat
  saturated : Bool
  deriving DecidableEq, Repr

/-- The figures of a slot. NSTEP is the length of the step list (R62). -/
structure Figures where
  cap : Option CapFigure
  soh : Option MarkedFigure
  rdc : Option MarkedFigure
  sdr : Option MarkedFigure
  tmax : Option Int
  steps : List MarkedFigure
  deriving DecidableEq, Repr

/-- A sample as the tracker keeps it: clamped values, tick, phase and clipped mark (R47). -/
structure Sample where
  voltage : Nat
  current : Int
  temperature : Int
  tick : Nat
  phase : Phase
  clipped : Bool
  deriving DecidableEq, Repr

/-- An open capacity run (R34, R35). -/
structure CapacityRun where
  accumulator : Int
  minVoltage : Nat
  gaps : Nat
  clipped : Bool
  deriving DecidableEq, Repr

/-- The stage of a rest window; the start voltage exists once it is OPEN (R40, R47). -/
inductive WindowStage where
  | settling
  | opened (startVoltage : Nat)
  deriving DecidableEq, Repr

/-- A rest window (R39 to R41). -/
structure RestWindow where
  stage : WindowStage
  elapsed : Nat
  gaps : Nat
  deriving DecidableEq, Repr

/-- The tracker of a slot (R47). -/
structure Tracker where
  previous : Option Sample
  phase : Phase
  charged : Bool
  run : Option CapacityRun
  window : Option RestWindow
  deriving DecidableEq, Repr

/-- The state of an occupied slot with the fields that only that state has (spec/01, Slot record): the installed
grade and drift mark of INSTALLED, the reason and the kept installed grade of QUARANTINED. -/
inductive ModuleState where
  | admitted
  | testing
  | graded
  | installed (installedGrade : Nat) (drift : Bool)
  | quarantined (reason : QuarantineReason) (installedGrade : Option Nat)
  deriving DecidableEq, Repr

/-- The record of an occupied slot (R1). Its place is held by the place table (R99; log entry 13). -/
structure ModuleRecord where
  state : ModuleState
  tag : List Byte
  family : Family
  cells : Nat
  rated : Nat
  figures : Figures
  grade : Nat
  gradeRow : Option (Fin 16)
  restored : Bool
  completedRuns : Nat
  tracker : Tracker
  deriving DecidableEq, Repr

/-- A slot record. VACANT holds its state, grade 0 and nothing else (R1): it is `none`. -/
abbrev Slot := Option ModuleRecord

/-! ## Intake unit and figure unit tables -/

/-- One entry of the node register (R18). -/
structure NodeEntry where
  lastTick : Option Nat
  lastArrival : Option Nat
  silent : Bool
  sampleFrames : Nat
  malformed : Nat
  deriving DecidableEq, Repr

/-- A chemistry profile (R22). Voltages are per cell in 0.1 mV. -/
structure Profile where
  valid : Bool
  fullMark : Nat
  emptyMark : Nat
  hardHigh : Nat
  hardLow : Nat
  restThreshold : Nat
  stepMinimum : Nat
  stepInterval : Nat
  settleTime : Nat
  restWindow : Nat
  maxGap : Nat
  gapAllowance : Nat
  hardTemperature : Int
  deriving DecidableEq, Repr

/-- A point of a correction curve (R53). -/
structure CurvePoint where
  written : Bool
  temperature : Int
  factor : Nat
  deriving DecidableEq, Repr

/-! ## Grading unit -/

/-- The predicate of a criterion: the set of outcomes for which it is true (R70). -/
structure Predicate where
  less : Bool
  equal : Bool
  greater : Bool
  unknown : Bool
  deriving DecidableEq, Repr

/-- A criterion of a grade row (R70). -/
structure Criterion where
  figure : FigureKind
  predicate : Predicate
  strict : Bool
  threshold : Int
  deriving DecidableEq, Repr

/-- A row of the grade table (R69). -/
structure GradeRow where
  enabled : Bool
  code : Nat
  families : BitVec 4
  criteria : List Criterion
  deriving DecidableEq, Repr

/-- The sixteen rows of a grade table. -/
abbrev GradeTable := Vector GradeRow 16

/-! ## Plan unit -/

/-- The kind of a string (spec/05, Strings of the bank map). -/
inductive StringKind where
  | single
  | paired
  deriving DecidableEq, Repr

/-- A string of the bank map (R94). -/
structure BankString where
  enabled : Bool
  family : Family
  kind : StringKind
  first : Nat
  count : Nat
  gradeMask : BitVec 16
  capTolerance : Nat
  pairTolerance : Nat
  deriving DecidableEq, Repr

/-- The bank map. -/
abbrev BankMap := Vector BankString 8

/-- A place of the bank (R99). -/
structure Place where
  slot : Option SlotNo
  fixed : Bool
  alarm : Bool
  deriving DecidableEq, Repr

/-- The state of a string record (R104). -/
inductive StringState where
  | opened
  | planned
  | short
  | incomplete
  deriving DecidableEq, Repr

/-- A string record (R104). -/
structure StringRecord where
  state : StringState
  reference : Option Nat
  review : BitVec 16
  deriving DecidableEq, Repr

/-- An entry of the candidate list (R118). -/
structure Candidate where
  slot : SlotNo
  family : Family
  grade : Nat
  cap : Nat
  rdc : Option Nat
  taken : Bool
  struck : Bool
  deriving DecidableEq, Repr

/-- A position filled by a planning run: its number and the slots chosen, first member first (R114). -/
structure Choice where
  position : Nat
  slots : List SlotNo
  deriving DecidableEq, Repr

/-- The current string of a planning run: the references, the positions that were not fixed when the string was
opened and are still to fill, and the choices made (R120, R121). -/
structure CurrentString where
  string : StringNo
  fixedReference : Option Nat
  reference : Option Nat
  toFill : List Nat
  choices : List Choice
  deriving DecidableEq, Repr

/-- An entry of the tentative result (R114). `planned` is the tentative state: PLANNED or SHORT. -/
structure TentativeEntry where
  string : StringNo
  planned : Bool
  reference : Option Nat
  choices : List Choice
  deriving DecidableEq, Repr

/-- The run state while a planning run exists (R114). -/
inductive RunMode where
  | running
  | held
  deriving DecidableEq, Repr

/-- The run record while a planning run exists (R114). -/
structure PlanningRun where
  mode : RunMode
  current : Option CurrentString
  lastProcessed : Option StringNo
  disturbed : Bool
  budget : Nat
  candidates : List Candidate
  tentative : List TentativeEntry
  deriving DecidableEq, Repr

/-! ## Report unit -/

/-- The report kinds (R159). -/
inductive ReportKind where
  | grade
  | figure
  | quarantine
  | drift
  | strict
  | plan
  | silent
  | store
  | start
  | attention
  deriving DecidableEq, Repr

/-- The outcome of a PLAN report (R137). -/
inductive PlanOutcome where
  | adopted
  | disturbed
  | aborted
  deriving DecidableEq, Repr

/-- The operation of a STORE report (R159). -/
inductive StoreOperation where
  | save
  | certify
  deriving DecidableEq, Repr

/-- A report: its kind, its slot where the kind has one, and the content of the kind (R159). -/
inductive Report where
  | grade (slot : SlotNo) (oldGrade newGrade : Nat) (row : Option (Fin 16))
  | figure (slot : SlotNo) (figures : BitVec 6)
  | quarantine (slot : SlotNo) (reason : QuarantineReason) (previousGrade : Nat)
  | drift (slot : SlotNo) (installedGrade newGrade : Nat) (mark : Bool)
  | strict (slot : SlotNo) (row : Fin 16) (criterion : Nat)
  | plan (outcome : PlanOutcome) (rerun : Bool) (states : List StringState)
  | silent (node : Nat) (nodes : BitVec 16)
  | store (operation : StoreOperation) (image : Nat)
  | start (cause : RestartCause) (valid : BitVec 10) (install : InstallResult)
  | attention (kinds : BitVec 8)
  deriving DecidableEq, Repr

/-- The six status counters (R164). -/
structure Counters where
  badCheck : Nat
  malformed : Nat
  upOverflow : Nat
  downOverflow : Nat
  directiveOverflow : Nat
  reportOverflow : Nat
  deriving DecidableEq, Repr

/-! ## What the intake unit hands to the figure unit (spec/03) -/

/-- A sample of a used channel entry after clamping (R27). -/
structure ClampedSample where
  voltage : Nat
  current : Int
  temperature : Int
  tick : Nat
  clipped : Bool
  deriving DecidableEq, Repr

/-- A valid step: ΔV in 0.1 mV, ΔI in mA and the temperature of the loaded sample (R44). -/
structure StepCapture where
  deltaV : Int
  deltaI : Int
  temperature : Int
  deriving DecidableEq, Repr

/-- A completed rest window (R41). -/
structure WindowResult where
  startVoltage : Nat
  endVoltage : Nat
  elapsed : Nat
  deriving DecidableEq, Repr

/-- What one accepted sample hands to the figure unit (R46, R49). -/
structure Delivery where
  run : Option CapacityRun
  step : Option StepCapture
  window : Option WindowResult
  tmax : Option Int
  deriving DecidableEq, Repr

/-- The result of evaluating a slot against the grade table (R73 to R75). -/
inductive Evaluation where
  | graded (grade : Nat) (row : Option (Fin 16))
  | deferred (row : Fin 16) (criterion : Nat)
  deriving DecidableEq, Repr

/-! ## Directive unit -/

/-- The outcomes an answer may carry (R152). -/
inductive AnswerOutcome where
  | done
  | busy
  | state
  | range
  | malformed
  | unknown
  | bypass
  | fixed
  | active
  | empty
  | duplicate
  | order
  | misaligned
  | overlap
  | edit
  | certified
  | locked
  | notEnabled
  | invalidImage
  | conflict
  | profile
  | readOnly
  deriving DecidableEq, Repr

/-- A directive frame in the directive queue: its tag and its payload as received (R150). -/
structure DirectiveFrame where
  tag : Byte
  payload : List Byte
  deriving DecidableEq, Repr

/-- An answer (R151): the tag of its directive, the directive code, the outcome and the data. -/
structure Answer where
  tag : Byte
  code : Byte
  outcome : AnswerOutcome
  data : List Byte
  deriving DecidableEq, Repr

/-- What a directive's rule gives: the outcome, the data of a DONE answer, and the state after it. -/
structure Reply (σ : Type) where
  outcome : AnswerOutcome
  data : List Byte
  state : σ

/-- The table pointer (R153). -/
structure TablePointer where
  table : Nat
  index : Nat
  deriving DecidableEq, Repr

/-- The edit window while it is open: the written mark and the shadow copy (R86). -/
structure EditWindow where
  written : Bool
  shadow : GradeTable
  deriving DecidableEq, Repr

/-! ## Chain interface -/

/-- A level that is to be repeated on DN_TX (R148): its polarity, the time it was held, and the time the line was
idle before it at UP_RX, both in microseconds. -/
structure LineLevel where
  pol : Polarity
  duration : Nat
  idle : Nat
  deriving DecidableEq, Repr

/-- What UP_TX is sending (R144, R145), with the bytes of the frame. -/
inductive UpTransmission where
  | answer (a : Answer) (bytes : Frame)
  | report (r : Report) (bytes : Frame)
  | forwarded (bytes : Frame)
  deriving DecidableEq, Repr

/-- What DN_TX is sending (R143, R148). -/
inductive DownTransmission where
  | forwarded (bytes : Frame)
  | level (l : LineLevel)
  deriving DecidableEq, Repr

/-! ## Store unit -/

/-- The settings (R172). Bit b of the address source set takes bit b from the stored address. -/
structure Settings where
  bootImage : Nat
  addressSource : BitVec 5
  storedAddress : BitVec 5
  silenceTimeout : Nat
  autoRerun : Nat
  defaultMask : BitVec 8
  deriving DecidableEq, Repr

/-- One slot of an install record (R166). -/
structure InstalledSlot where
  slot : SlotNo
  tag : List Byte
  family : Family
  cells : Nat
  rated : Nat
  state : ModuleState
  figures : Figures
  deriving DecidableEq, Repr

/-- The install record of a fixed position (R166): string, position, its one or two slots and the alarm mark of
each of its places. -/
structure InstallRecord where
  string : StringNo
  position : Nat
  slots : List InstalledSlot
  alarms : List Bool
  deriving DecidableEq, Repr

/-- The content of image 2: the profiles and the curve points. -/
structure ProfileImage where
  profiles : Vector Profile 4
  curves : Vector CurvePoint 32
  deriving DecidableEq, Repr

/-- The content of image 9: the copy of the eight strings and the install records. -/
structure InstallImage where
  bank : BankMap
  records : List InstallRecord
  deriving DecidableEq, Repr

/-- The ten images (R166). An image is `some` content while its valid mark is set and `none` while it is clear;
nothing reads the content of an invalid image (log entry 13). -/
structure ImageStore where
  identity : Option (BitVec 64)
  settings : Option Settings
  profiles : Option ProfileImage
  slotMap : Option (Vector (Option SlotNo) 128)
  bank : Option BankMap
  grades : Vector (Option GradeTable) 4
  certified : Vector Bool 4
  install : Option InstallImage
  deriving DecidableEq, Repr

/-- The content copied by an accepted STORE SAVE (R168). -/
inductive SavedContent where
  | settings (c : Settings)
  | profiles (c : ProfileImage)
  | slotMap (c : Vector (Option SlotNo) 128)
  | bank (c : BankMap)
  | grades (image : GradeImage) (c : GradeTable)
  | install (c : InstallImage)
  deriving DecidableEq, Repr

/-- The operation that keeps the store busy (R167). -/
inductive StoreWork where
  | save (content : SavedContent)
  | certify (image : GradeImage)
  deriving DecidableEq, Repr

/-! ## The state -/

/-- Everything the manual gives the engine, and the queue of waiting commands. -/
structure State where
  /-- The commands that are waiting, first in first out (log entry 5). -/
  pending : List Instr
  engine : EngineState
  restartCause : RestartCause
  foundValid : BitVec 10
  installResult : InstallResult
  engineTime : Nat
  resetN : Bool
  adrPins : BitVec 5
  engineAddress : Nat
  addressDefaulted : Bool
  upReceiving : Bool
  dnReceiving : Bool
  upQueue : List Frame
  dnQueue : List Frame
  upTx : Option UpTransmission
  dnTx : Option DownTransmission
  arbiterCount : Nat
  reportCount : Nat
  patternCount : Nat
  lastBreakEnd : Nat
  repeats : List LineLevel
  directiveQueue : List DirectiveFrame
  answer : Option Answer
  takingSuspended : Bool
  pointer : TablePointer
  fieldMask : Option (BitVec 16)
  purgeEnable : Bool
  window : Option EditWindow
  reports : List Report
  causeFlags : BitVec 10
  reportMask : BitVec 8
  counters : Counters
  nodes : Vector NodeEntry 16
  slotMap : Vector (Option SlotNo) 128
  profiles : Vector Profile 4
  curves : Vector CurvePoint 32
  rows : GradeTable
  origin : Option GradeImage
  modified : Bool
  slots : Vector Slot 64
  bank : BankMap
  places : Vector Place 64
  records : Vector StringRecord 8
  run : Option PlanningRun
  store : ImageStore
  latch : Bool
  storeWork : Option StoreWork
  settings : Settings
  deriving DecidableEq, Repr

/-! ## Start-up values -/

/-- No figure and an empty step list (R12). -/
def Figures.none : Figures :=
  { cap := .none, soh := .none, rdc := .none, sdr := .none, tmax := .none, steps := [] }

/-- The tracker after admission or a segment reset (R11, R12). -/
def Tracker.initial : Tracker :=
  { previous := .none, phase := .none, charged := false, run := .none, window := .none }

/-- A node register entry after start-up (R18). -/
def NodeEntry.initial : NodeEntry :=
  { lastTick := none, lastArrival := none, silent := false, sampleFrames := 0, malformed := 0 }

/-- The profile of an invalid image 2: valid mark clear and every field 0 (R22). -/
def Profile.invalid : Profile :=
  { valid := false, fullMark := 0, emptyMark := 0, hardHigh := 0, hardLow := 0, restThreshold := 0,
    stepMinimum := 0, stepInterval := 0, settleTime := 0, restWindow := 0, maxGap := 0, gapAllowance := 0,
    hardTemperature := 0 }

/-- An unwritten curve point: temperature and factor 0 (R53). -/
def CurvePoint.unwritten : CurvePoint := { written := false, temperature := 0, factor := 0 }

/-- The empty row (R69). -/
def GradeRow.empty : GradeRow := { enabled := false, code := 15, families := 0, criteria := [] }

/-- The default string (R94). -/
def BankString.default : BankString :=
  { enabled := false, family := 0, kind := .single, first := 0, count := 1, gradeMask := 0,
    capTolerance := 0, pairTolerance := 0 }

/-- An empty place with both marks clear (R99). -/
def Place.empty : Place := { slot := none, fixed := false, alarm := false }

/-- An OPEN string record with no reference and every review mark clear (R98, R105). -/
def StringRecord.initial : StringRecord := { state := .opened, reference := none, review := 0 }

/-- All counters 0 (R164). -/
def Counters.zero : Counters :=
  { badCheck := 0, malformed := 0, upOverflow := 0, downOverflow := 0, directiveOverflow := 0,
    reportOverflow := 0 }

/-- The default settings (R172). -/
def Settings.default : Settings :=
  { bootImage := 5, addressSource := 0, storedAddress := 0, silenceTimeout := 5000, autoRerun := 0,
    defaultMask := 0xFF }

/-- The store of a part that has had nothing saved: image 0 as written at manufacture, every other image invalid
(DESIGN CHOICE, log entry 2). -/
def ImageStore.blank : ImageStore :=
  { identity := some Config.uniqueNumber, settings := none, profiles := none, slotMap := none, bank := none,
    grades := Vector.replicate 4 none, certified := Vector.replicate 4 false, install := none }

/-- The machine right after the power-on trigger: STARTING, every table and queue at the value the manual states
for after start-up with no valid image (log entries 1 and 2). -/
def State.reset : State where
  pending := []
  engine := .starting
  restartCause := .powerOn
  foundValid := 0
  installResult := .invalid
  engineTime := 0
  resetN := true
  adrPins := 0
  engineAddress := Config.defaultAddress
  addressDefaulted := true
  upReceiving := false
  dnReceiving := false
  upQueue := []
  dnQueue := []
  upTx := none
  dnTx := none
  arbiterCount := 0
  reportCount := 0
  patternCount := 0
  lastBreakEnd := 0
  repeats := []
  directiveQueue := []
  answer := none
  takingSuspended := false
  pointer := { table := 0, index := 0 }
  fieldMask := none
  purgeEnable := false
  window := none
  reports := []
  causeFlags := 0
  reportMask := 0xFF
  counters := Counters.zero
  nodes := Vector.replicate 16 NodeEntry.initial
  slotMap := Vector.replicate 128 none
  profiles := Vector.replicate 4 Profile.invalid
  curves := Vector.replicate 32 CurvePoint.unwritten
  rows := Vector.replicate 16 GradeRow.empty
  origin := none
  modified := false
  slots := Vector.replicate 64 none
  bank := Vector.replicate 8 BankString.default
  places := Vector.replicate 64 Place.empty
  records := Vector.replicate 8 StringRecord.initial
  run := none
  store := ImageStore.blank
  latch := false
  storeWork := none
  settings := Settings.default

end Sys2Proof.Machine
end

