-- ==== Sys2Proof/Machine/Operands.lean ====
section
/-! DEFINITION. Reading and building the bytes of the wire (spec/12): byte order, signed fields, sets, the check of a
frame (R140), the fields of a frame, and the directive code table with its parameter lengths. -/

namespace Sys2Proof.Machine

/-! ## Bytes -/

/-- Byte `i` of a list as a number, 0 beyond its end. -/
def byteAt (bs : List Byte) (i : Nat) : Nat := (bs.getD i 0).toNat

/-- The unsigned field of `n` bytes that begins at byte `i`, most significant byte first. -/
def unsignedAt (bs : List Byte) (i n : Nat) : Nat :=
  ((bs.drop i).take n).foldl (fun a b => a * 256 + b.toNat) 0

/-- A value of `n` bytes read as two's complement. -/
def signedOf (n v : Nat) : Int :=
  if v < 256 ^ n / 2 then (v : Int) else (v : Int) - 256 ^ n

/-- The signed field of `n` bytes that begins at byte `i`. -/
def signedAt (bs : List Byte) (i n : Nat) : Int := signedOf n (unsignedAt bs i n)

/-- The low `n` bytes of a number, most significant byte first. -/
def toBytes : Nat → Nat → List Byte
  | 0, _ => []
  | n + 1, v => toBytes n (v / 256) ++ [BitVec.ofNat 8 v]

/-- A signed number in `n` bytes of two's complement. -/
def intBytes (n : Nat) (v : Int) : List Byte := toBytes n (v % (256 ^ n : Nat)).toNat

/-- A mark as bit `n` of a byte or word of marks. -/
def markBit (n : Nat) (m : Bool) : Nat := if m then 2 ^ n else 0

/-- A one-byte field: the value, or 255 for none (spec/12, Conventions of the wire). -/
def byteOrNone : Option Nat → List Byte
  | none => [255]
  | some v => toBytes 1 v

/-- The 16-bit field of two bytes at byte `i`, as a set of bits. -/
def setAt (bs : List Byte) (i : Nat) : BitVec 16 := BitVec.ofNat 16 (unsignedAt bs i 2)

/-- Bit 0 of a one-byte enabled or kind field (R178). -/
def flagAt (bs : List Byte) (i : Nat) : Bool := byteAt bs i % 2 == 1

/-! ## Frames -/

/-- One bit of the check's division by x^16 + x^12 + x^5 + 1 (R140). -/
def checkBit (c : BitVec 16) : BitVec 16 := if c.msb then (c <<< 1) ^^^ 0x1021 else c <<< 1

/-- One byte of the check, most significant bit first (R140). -/
def checkByte (c : BitVec 16) (b : Byte) : BitVec 16 :=
  Nat.repeat checkBit 8 (c ^^^ (b.zeroExtend 16 <<< 8))

/-- The check over header and payload: preset to all ones, no final inversion (R140). -/
def frameCheck (bs : List Byte) : BitVec 16 := bs.foldl checkByte 0xFFFF

/-- The kind byte of a frame. -/
def frameKind (f : Frame) : Nat := byteAt f 0

/-- The header address of a frame. -/
def frameAddress (f : Frame) : Nat := byteAt f 1

/-- The tag byte of a frame. -/
def frameTag (f : Frame) : Byte := f.getD 2 0

/-- The payload of a well-formed frame: what stands between the header and the check. -/
def framePayload (f : Frame) : List Byte := (f.drop 4).take (f.length - 6)

/-- The length rule of R139: 6 bytes or more, equal to 4 + the header's payload length + 2. -/
def lengthRule (f : Frame) : Bool := decide (6 ≤ f.length) && f.length == 4 + byteAt f 3 + 2

/-- The check of a well-formed frame is good (R140). -/
def goodCheck (f : Frame) : Bool :=
  (frameCheck (f.take (f.length - 2))).toNat == unsignedAt f (f.length - 2) 2

/-- Frame kind codes (spec/12): SAMPLE. -/
def kindSample : Nat := 1
/-- Frame kind code of DIRECTIVE. -/
def kindDirective : Nat := 2
/-- Frame kind code of ANSWER. -/
def kindAnswer : Nat := 3
/-- Frame kind code of REPORT. -/
def kindReport : Nat := 4

/-- A frame the engine or a sender builds: header, payload and check (R145, R179). -/
def buildFrame (kind address : Nat) (tag : Byte) (payload : List Byte) : Frame :=
  let body := toBytes 1 kind ++ toBytes 1 address ++ [tag] ++ toBytes 1 payload.length ++ payload
  body ++ toBytes 2 (frameCheck body).toNat

/-! ## Directive codes -/

/-- Directive codes of spec/12 that other rules name. -/
def codeRestart : Nat := 5
/-- The code of BYPASS. -/
def codeBypass : Nat := 6
/-- The code of WRITE. -/
def codeWrite : Nat := 20

/-- The parameter length of each of the 33 directive codes (spec/12, Directive payload): `some (some n)` for a
directive that takes n bytes, `some none` for WRITE, whose length depends on the table, `none` for a code that
names no directive. -/
def parameterLength (code : Nat) : Option (Option Nat) :=
  match code with
  | 1 | 2 | 5 | 6 | 7 | 8 | 9 => some (some 0)
  | 3 => some (some 3)
  | 4 => some (some 2)
  | 16 => some (some 2)
  | 17 => some (some 1)
  | 18 => some (some 0)
  | 19 => some (some 2)
  | 20 => some none
  | 21 | 22 | 23 => some (some 0)
  | 32 => some (some 21)
  | 33 => some (some 1)
  | 34 => some (some 2)
  | 48 | 49 | 50 | 51 => some (some 0)
  | 52 | 53 => some (some 2)
  | 54 | 55 => some (some 0)
  | 64 | 65 => some (some 0)
  | 66 | 67 | 68 => some (some 1)
  | _ => none

/-- The length of the write form of a writable table (spec/12, Write forms). -/
def writeFormLength (table : Nat) : Option Nat :=
  match table with
  | 0 => some 1
  | 1 => some 25
  | 2 => some 4
  | 3 => some 24
  | 4 => some 11
  | 9 => some 8
  | _ => none

/-- The number of entries of a table (spec/08, Tables and the table pointer). -/
def tableEntries (table : Nat) : Nat :=
  match table with
  | 0 => 128
  | 1 => 4
  | 2 => 32
  | 3 => 16
  | 4 => 8
  | 5 => 16
  | 6 => 64
  | 7 => 72
  | 8 => 1
  | 9 => 1
  | _ => 0

/-! ## Field masks -/

/-- Field `n` is named by the mask in force, so a WRITE keeps it (R156). -/
def keeps (mask : Option (BitVec 16)) (n : Nat) : Bool :=
  match mask with
  | none => false
  | some m => m.getLsbD n

/-- The value a field results in: the present one when the mask keeps it, the written one otherwise. -/
def masked {α : Type} (mask : Option (BitVec 16)) (n : Nat) (present written : α) : α :=
  if keeps mask n then present else written

/-! ## Codes of spec/12 -/

/-- The code of a slot state; VACANT is 0. -/
def slotStateCode : Slot → Nat
  | none => 0
  | some m =>
    match m.state with
    | .admitted => 1
    | .testing => 2
    | .graded => 3
    | .installed _ _ => 4
    | .quarantined _ _ => 5

/-- The code of a phase. -/
def phaseCode : Phase → Nat
  | .none => 0
  | .rest => 1
  | .charge => 2
  | .discharge => 3

/-- The code of a figure. -/
def FigureKind.code : FigureKind → Nat
  | .cap => 0
  | .soh => 1
  | .rdc => 2
  | .sdr => 3
  | .tmax => 4
  | .nstep => 5

/-- The figure a code names; a code above 5 names none (R178). -/
def figureOfCode (n : Nat) : Option FigureKind :=
  match n with
  | 0 => some .cap
  | 1 => some .soh
  | 2 => some .rdc
  | 3 => some .sdr
  | 4 => some .tmax
  | 5 => some .nstep
  | _ => none

/-- The code of a report kind, which is also the bit of its cause flag (spec/12). -/
def ReportKind.code : ReportKind → Nat
  | .grade => 0
  | .figure => 1
  | .quarantine => 2
  | .drift => 3
  | .strict => 4
  | .plan => 5
  | .silent => 6
  | .store => 7
  | .start => 8
  | .attention => 9

/-- The code of a string state. -/
def StringState.code : StringState → Nat
  | .opened => 0
  | .planned => 1
  | .short => 2
  | .incomplete => 3

/-- The code of a quarantine reason. -/
def QuarantineReason.code : QuarantineReason → Nat
  | .highVoltage => 1
  | .lowVoltage => 2
  | .overTemperature => 3

/-- The code of a restart cause. -/
def RestartCause.code : RestartCause → Nat
  | .powerOn => 0
  | .resetLine => 1
  | .restartDirective => 2
  | .linkReset => 3

/-- The code of an install result. -/
def InstallResult.code : InstallResult → Nat
  | .restored => 0
  | .conflict => 1
  | .invalid => 2

/-- The code of a PLAN outcome. -/
def PlanOutcome.code : PlanOutcome → Nat
  | .adopted => 0
  | .disturbed => 1
  | .aborted => 2

/-- The code of a STORE operation. -/
def StoreOperation.code : StoreOperation → Nat
  | .save => 0
  | .certify => 1

/-- The code of an answer outcome. -/
def AnswerOutcome.code : AnswerOutcome → Nat
  | .done => 0
  | .busy => 1
  | .state => 2
  | .range => 3
  | .malformed => 4
  | .unknown => 5
  | .bypass => 6
  | .fixed => 7
  | .active => 8
  | .empty => 9
  | .duplicate => 10
  | .order => 11
  | .misaligned => 12
  | .overlap => 13
  | .edit => 14
  | .certified => 15
  | .locked => 16
  | .notEnabled => 17
  | .invalidImage => 18
  | .conflict => 19
  | .profile => 20
  | .readOnly => 21

end Sys2Proof.Machine
end

