-- ==== Sys2Proof/Machine/Flags.lean ====
section
/-! DEFINITION. The report unit (spec/09): the status counters, the cause flags, the report mask and the placing of a
report request in the report queue. -/

namespace Sys2Proof.Machine

/-! ## Counters -/

/-- A 16-bit count counted up by one, saturating at 65 535. -/
def countUp (n : Nat) : Nat := min (n + 1) Config.counterMax

/-- Count the malformed counter (R139, R25). -/
def countMalformed (s : State) : State :=
  { s with counters := { s.counters with malformed := countUp s.counters.malformed } }

/-- Count the bad check counter (R140). -/
def countBadCheck (s : State) : State :=
  { s with counters := { s.counters with badCheck := countUp s.counters.badCheck } }

/-- Count the up overflow counter (R143). -/
def countUpOverflow (s : State) : State :=
  { s with counters := { s.counters with upOverflow := countUp s.counters.upOverflow } }

/-- Count the down overflow counter (R143). -/
def countDownOverflow (s : State) : State :=
  { s with counters := { s.counters with downOverflow := countUp s.counters.downOverflow } }

/-- Count the directive overflow counter (R150). -/
def countDirectiveOverflow (s : State) : State :=
  { s with counters := { s.counters with directiveOverflow := countUp s.counters.directiveOverflow } }

/-- Count the report overflow counter (R161). -/
def countReportOverflow (s : State) : State :=
  { s with counters := { s.counters with reportOverflow := countUp s.counters.reportOverflow } }

/-! ## Reports -/

/-- The kind of a report. -/
def Report.kind : Report → ReportKind
  | .grade _ _ _ _ => .grade
  | .figure _ _ => .figure
  | .quarantine _ _ _ => .quarantine
  | .drift _ _ _ _ => .drift
  | .strict _ _ _ => .strict
  | .plan _ _ _ => .plan
  | .silent _ _ => .silent
  | .store _ _ => .store
  | .start _ _ _ => .start
  | .attention _ => .attention

/-- The slot of a report, or none for a slotless kind (R159). -/
def Report.slot : Report → Option SlotNo
  | .grade i _ _ _ => some i
  | .figure i _ => some i
  | .quarantine i _ _ => some i
  | .drift i _ _ _ => some i
  | .strict i _ _ => some i
  | .plan _ _ _ => none
  | .silent _ _ => none
  | .store _ _ => none
  | .start _ _ _ => none
  | .attention _ => none

/-- Two reports of the same kind and slot, which merge (R161). -/
def Report.sameKey (a b : Report) : Bool := a.kind == b.kind && a.slot == b.slot

/-- What a waiting report becomes when a request merges into it: the union of the figure sets for FIGURE, the
request's content for every other kind (R161). -/
def Report.merge (waiting request : Report) : Report :=
  match waiting, request with
  | .figure i a, .figure _ b => .figure i (a ||| b)
  | _, r => r

/-- The bit of OVERFLOW among the cause flags (spec/12). -/
def overflowBit : Nat := 9

/-- The cause flags with flag `n` set. -/
def setFlag (flags : BitVec 10) (n : Nat) : BitVec 10 := flags ||| BitVec.ofNat 10 (2 ^ n)

/-- The flag a request sets: that of its kind, and none for ATTENTION (R160). -/
def flagsAfterRequest (flags : BitVec 10) (k : ReportKind) : BitVec 10 :=
  match k with
  | .attention => flags
  | k => setFlag flags k.code

/-- A request goes on to the queue when its kind is in the mask, and always for START and ATTENTION (R160). -/
def passesMask (mask : BitVec 8) (k : ReportKind) : Bool :=
  match k with
  | .start => true
  | .attention => true
  | k => mask.getLsbD k.code

/-- Place a request in the report queue: merge, append or overflow (R161). -/
def placeReport (r : Report) (s : State) : State :=
  if s.reports.any (fun w => Report.sameKey w r) then
    { s with reports := s.reports.map (fun w => if Report.sameKey w r then Report.merge w r else w) }
  else if s.reports.length < Config.reportQueueSize then
    { s with reports := s.reports ++ [r] }
  else
    countReportOverflow { s with causeFlags := setFlag s.causeFlags overflowBit }

/-- A request to the report unit: the flag first, then the queue unless the kind is masked (R160). -/
def requestReport (r : Report) (s : State) : State :=
  let s := { s with causeFlags := flagsAfterRequest s.causeFlags r.kind }
  if passesMask s.reportMask r.kind then placeReport r s else s

/-- Remove every waiting report of a slot that becomes VACANT; flags and counters stay (R162). -/
def removeReports (i : SlotNo) (s : State) : State :=
  { s with reports := s.reports.filter (fun r => r.slot != some i) }

end Sys2Proof.Machine
end

