-- ==== Sys2Proof/Machine/Ops.lean ====
section
/-! DEFINITION. The operations every family shares: engine time, slot updates and segment resets, the forward queues, the
two transmitters and the up-port arbiter, the taking and answering of a directive, and the beginning of a restart. -/

namespace Sys2Proof.Machine

/-! ## Engine time and slots -/

/-- Let engine time pass (log entry 7). -/
def advance (elapsed : Nat) (s : State) : State := { s with engineTime := s.engineTime + elapsed }

/-- Put a record in a slot. -/
def setSlot (i : SlotNo) (v : Slot) (s : State) : State := { s with slots := s.slots.set i v }

/-- Change the record of one occupied slot; a VACANT slot stays. -/
def updateSlot (i : SlotNo) (f : ModuleRecord → ModuleRecord) (s : State) : State :=
  setSlot i (s.slots[i].map f) s

/-- Change the records of all occupied slots. -/
def mapSlots (f : SlotNo → ModuleRecord → ModuleRecord) (s : State) : State :=
  { s with slots := Vector.ofFn fun i => s.slots[i].map (f i) }

/-- The slot is QUARANTINED. -/
def ModuleRecord.isQuarantined (m : ModuleRecord) : Bool :=
  match m.state with
  | .quarantined _ _ => true
  | _ => false

/-- The segment reset of one record; it has no effect on a QUARANTINED slot (R11). -/
def resetTracker (m : ModuleRecord) : ModuleRecord :=
  if m.isQuarantined then m else { m with tracker := Tracker.initial }

/-- The segment reset of a slot (R11). -/
def resetSegments (i : SlotNo) (s : State) : State := updateSlot i resetTracker s

/-- The segment reset of every slot that `which` names (R11). -/
def resetSegmentsWhere (which : SlotNo → ModuleRecord → Bool) (s : State) : State :=
  mapSlots (fun i m => if which i m then resetTracker m else m) s

/-- The segment reset of every slot (R11). -/
def resetAllSegments (s : State) : State := mapSlots (fun _ m => resetTracker m) s

/-! ## Forward queues (R143) -/

/-- A frame joins the up forward queue, or is dropped and counted when the queue is full (R143). -/
def forwardUp (f : Frame) (s : State) : State :=
  if s.upQueue.length < Config.upQueueSize then { s with upQueue := s.upQueue ++ [f] } else countUpOverflow s

/-- A frame joins the down forward queue, or is dropped and counted when the queue is full (R143). -/
def forwardDown (f : Frame) (s : State) : State :=
  if s.dnQueue.length < Config.dnQueueSize then { s with dnQueue := s.dnQueue ++ [f] } else countDownOverflow s

/-! ## Payloads of what the engine sends (spec/12) -/

/-- The payload of an answer: code, outcome and data. -/
def answerPayload (a : Answer) : List Byte := [a.code] ++ toBytes 1 a.outcome.code ++ a.data

/-- The content of a report after its kind and slot (spec/12, Report payload). -/
def reportContent : Report → List Byte
  | .grade _ o n row => toBytes 1 o ++ toBytes 1 n ++ byteOrNone (row.map (·.val))
  | .figure _ figures => toBytes 1 figures.toNat
  | .quarantine _ reason previous => toBytes 1 reason.code ++ toBytes 1 previous
  | .drift _ installed new mark => toBytes 1 installed ++ toBytes 1 new ++ toBytes 1 (markBit 0 mark)
  | .strict _ row criterion => toBytes 1 row.val ++ toBytes 1 criterion
  | .plan outcome rerun states =>
    toBytes 1 outcome.code ++ toBytes 1 (markBit 0 rerun) ++ states.flatMap (fun t => toBytes 1 t.code)
  | .silent node nodes => toBytes 1 node ++ toBytes 2 nodes.toNat
  | .store operation image => toBytes 1 operation.code ++ toBytes 1 image
  | .start cause valid install => toBytes 1 cause.code ++ toBytes 2 valid.toNat ++ toBytes 1 install.code
  | .attention kinds => toBytes 2 kinds.toNat

/-- The payload of a report. A slotless kind carries none, 255, as its slot (log entry 16). -/
def reportPayload (r : Report) : List Byte :=
  toBytes 1 r.kind.code ++ byteOrNone (r.slot.map (·.val)) ++ reportContent r

/-! ## The up-port arbiter (R144, R145) -/

/-- The answer that may begin transmission: none while STARTING, when only forwarded frames are sent (R149). -/
def answerToSend (s : State) : Option Answer := if s.engine = .starting then none else s.answer

/-- The report that may begin transmission: the head of the queue while the engine is ACTIVE (R144). -/
def reportToSend (s : State) : Option Report := if s.engine = .active then s.reports.head? else none

/-- An answer begins transmission and leaves the slot (R144, R145). -/
def sendAnswer (a : Answer) (s : State) : State :=
  { s with
    answer := none
    arbiterCount := 0
    upTx := some (.answer a (buildFrame kindAnswer s.engineAddress a.tag (answerPayload a))) }

/-- A report begins transmission, leaves the queue and takes its tag from the running report count (R145). -/
def sendReport (r : Report) (s : State) : State :=
  { s with
    reports := s.reports.tail
    arbiterCount := 0
    reportCount := s.reportCount + 1
    upTx := some (.report r
      (buildFrame kindReport s.engineAddress (BitVec.ofNat 8 s.reportCount) (reportPayload r))) }

/-- The head of the up forward queue begins transmission; the count saturates at 2 (R144). -/
def sendForwarded (f : Frame) (rest : List Frame) (s : State) : State :=
  { s with
    upQueue := rest
    arbiterCount := min (s.arbiterCount + 1) 2
    upTx := some (.forwarded f) }

/-- The arbiter's choice, by the order of R144, on an idle up-port. -/
def arbitrate (s : State) : State :=
  match answerToSend s, reportToSend s, s.upQueue with
  | some a, _, _ => sendAnswer a s
  | none, some r, [] => sendReport r s
  | none, some r, f :: rest => if s.arbiterCount = 2 then sendReport r s else sendForwarded f rest s
  | none, none, f :: rest => sendForwarded f rest s
  | none, none, [] => s

/-- The up-port starts what the arbiter chooses when it is idle (R144). -/
def startUpPort (s : State) : State :=
  match s.upTx with
  | some _ => s
  | none => arbitrate s

/-- The down-port sends, when it is idle, the first level to repeat, and otherwise the head of its queue
(R143, R148). -/
def startDownPort (s : State) : State :=
  match s.dnTx, s.repeats, s.dnQueue with
  | some _, _, _ => s
  | none, l :: rest, _ => { s with repeats := rest, dnTx := some (.level l) }
  | none, [], f :: rest => { s with dnQueue := rest, dnTx := some (.forwarded f) }
  | none, [], [] => s

/-- What became available within a step is started on idle ports at its end (R144; log entry 8). While RESET_N is low
the chain interface stays in the condition of R149 and starts nothing (R173). -/
def startPorts (s : State) : State := if s.resetN then startUpPort (startDownPort s) else s

/-! ## Directives (R150 to R152) -/

/-- A directive may be taken: the engine is not STARTING, the answer slot is empty and no RESTART or BYPASS is
waiting to be acted on (R151, R174). -/
def canTake (s : State) : Bool := s.engine != .starting && s.answer.isNone && !s.takingSuspended

/-- Take a directive frame (R151): from the head of the directive queue, or, when the queue is empty, as a frame that
arrives at the up-port and is taken at once (R142, R150; log entry 5). `none` when it cannot be taken. -/
def takeDirective (d : DirectiveFrame) (s : State) : Option State :=
  if canTake s then
    match s.directiveQueue with
    | [] =>
      if d.payload.length ≤ Config.maxPayload then some { s with patternCount := 0, upReceiving := false } else none
    | h :: rest => if h = d then some { s with directiveQueue := rest } else none
  else none

/-- A refusal: the outcome, no data and the state as it is. -/
def refuse (o : AnswerOutcome) (s : State) : Reply State := { outcome := o, data := [], state := s }

/-- A directive carried out without data. -/
def accept (s : State) : Reply State := { outcome := .done, data := [], state := s }

/-- The answer of a directive goes into the answer slot (R151). -/
def placeAnswer (tag code : Byte) (r : Reply State) : State :=
  { r.state with answer := some { tag := tag, code := code, outcome := r.outcome, data := r.data } }

/-- What every taken directive does before its own rule: it discards the field mask and clears the purge-enable mark
(R156, R158). The rules that use either read it from the state before. -/
def consumeMarks (s : State) : State := { s with fieldMask := none, purgeEnable := false }

/-- Checks 3 and 4 of R152, then the directive's own rule. -/
def checkDirective (code : Nat) (params : List Byte) (takenInBypass : Bool) (rule : State → Reply State)
    (s : State) : Reply State :=
  if s.engine ≠ .active ∧ takenInBypass = false then refuse .bypass s
  else
    match parameterLength code with
    | some (some n) => if params.length = n then rule s else refuse .malformed s
    | _ => rule s

/-- A directive event: the frame is taken, its marks are consumed, it is checked and acted on, and its answer is
placed (R151, R152). An event that cannot happen leaves the state (log entry 4). -/
def runDirective (tag : Byte) (code : Nat) (params : List Byte) (takenInBypass : Bool)
    (rule : State → Reply State) (s : State) : State :=
  match takeDirective { tag := tag, payload := BitVec.ofNat 8 code :: params } s with
  | none => s
  | some t =>
    startPorts (placeAnswer tag (BitVec.ofNat 8 code) (checkDirective code params takenInBypass rule (consumeMarks t)))

/-! ## Restart (R149, R173) -/

/-- A restart by this trigger spares the level being repeated on DN_TX: only that of the completed link reset pattern,
which R148 does not let a restart cut short; every other trigger stops it (R149; log entry 14). -/
def sparesLevel (cause : RestartCause) : Bool := cause == .linkReset

/-- What DN_TX goes on sending when a restart begins: nothing, but for a level that is spared (R149, R148). -/
def keepLevel (spare : Bool) : Option DownTransmission → Option DownTransmission
  | some (.level l) => if spare then some (.level l) else none
  | _ => none

/-- The chain interface when a restart begins (R149). The levels that wait to be repeated stay, since R149 empties the
two forward queues alone (log entry 14). -/
def restartPorts (spare : Bool) (s : State) : State :=
  { s with
    upTx := none
    dnTx := keepLevel spare s.dnTx
    upReceiving := false
    dnReceiving := false
    upQueue := []
    dnQueue := []
    patternCount := 0
    arbiterCount := 0 }

/-- The engine is STARTING and what a restart cuts short is lost: a run ends without a report, a save or certify in
progress stops (R173, R136, R169, R171; log entry 12). -/
def enterStarting (spare : Bool) (s : State) : State :=
  { restartPorts spare s with engine := .starting, run := none, storeWork := none, takingSuspended := false }

/-- A restart trigger arrives (R173). -/
def triggerRestart (cause : RestartCause) (s : State) : State :=
  { enterStarting (sparesLevel cause) s with restartCause := cause }

end Sys2Proof.Machine
end

