-- ==== Sys2Proof/Machine/Bank.lean ====
section
/-! DEFINITION. The bank (spec/05): positions and places, keys and tolerance, leaving a place, eligibility, the review test,
the string records, and the disturbing of a planning run (R129). -/

namespace Sys2Proof.Machine

/-! ## Positions and places (R95) -/

/-- A number as a place, when it is one. -/
def placeNumber (n : Nat) : Option PlaceNo := if h : n < 64 then some ⟨n, h⟩ else none

/-- The number of places an enabled string owns (R95). -/
def BankString.span (b : BankString) : Nat :=
  match b.kind with
  | .single => b.count
  | .paired => 2 * b.count

/-- The places of a position, first member first (R95). -/
def BankString.placesOf (b : BankString) (p : Nat) : List PlaceNo :=
  match b.kind with
  | .single => [b.first + p].filterMap placeNumber
  | .paired => [b.first + 2 * p, b.first + 2 * p + 1].filterMap placeNumber

/-- The owning string and position of a place, or none for a free place (R95). -/
def ownerOf (bank : BankMap) (p : PlaceNo) : Option (StringNo × Nat) :=
  (List.finRange 8).findSome? fun i =>
    if bank[i].enabled then
      (List.range bank[i].count).findSome? fun pos =>
        if (bank[i].placesOf pos).contains p then some (i, pos) else none
    else none

/-- The place a slot stands in: the place field of its record (R99; log entry 13). -/
def placeOf (s : State) (i : SlotNo) : Option PlaceNo :=
  (List.finRange 64).find? fun p => s.places[p].slot == some i

/-- The slot stands in a fixed place. -/
def inFixedPlace (s : State) (i : SlotNo) : Bool :=
  match placeOf s i with
  | some p => s.places[p].fixed
  | none => false

/-- Some place of the bank is fixed (R96, R170). -/
def anyFixed (s : State) : Bool := (List.finRange 64).any fun p => s.places[p].fixed

/-- The position is fixed: its places are, together (R99). -/
def positionFixed (s : State) (i : StringNo) (pos : Nat) : Bool :=
  (s.bank[i].placesOf pos).all fun p => s.places[p].fixed

/-- Every place of the position holds a slot. -/
def positionFilled (s : State) (i : StringNo) (pos : Nat) : Bool :=
  (s.bank[i].placesOf pos).all fun p => s.places[p].slot.isSome

/-- The slots that stand in a position, first member first. -/
def positionSlots (s : State) (i : StringNo) (pos : Nat) : List SlotNo :=
  (s.bank[i].placesOf pos).filterMap fun p => s.places[p].slot

/-- Change one place. -/
def updatePlace (p : PlaceNo) (f : Place → Place) (s : State) : State :=
  { s with places := s.places.set p (f s.places[p]) }

/-- Change each of some places. -/
def updatePlaces (ps : List PlaceNo) (f : Place → Place) (s : State) : State :=
  ps.foldl (fun s p => updatePlace p f s) s

/-! ## Keys and references (R101 to R103) -/

/-- The CAP of the slot in a place, absent when the place is empty or its slot has none. -/
def capAt (s : State) (p : PlaceNo) : Option Nat :=
  s.places[p].slot.bind fun i => s.slots[i].bind fun m => m.figures.cap.map (·.value)

/-- The sum of values that are all present. -/
def sumPresent : List (Option Nat) → Option Nat
  | [] => some 0
  | v :: vs => v.bind fun a => (sumPresent vs).map (a + ·)

/-- The key of a position (R101). -/
def positionKey (s : State) (i : StringNo) (pos : Nat) : Option Nat :=
  sumPresent ((s.bank[i].placesOf pos).map (capAt s))

/-- The magnitude of a difference. -/
def distance (a b : Nat) : Nat := if a ≤ b then b - a else a - b

/-- A key is within the per-mille tolerance of a reference (R102). -/
def withinTolerance (key reference tolerance : Nat) : Bool :=
  decide (distance key reference * 1000 ≤ tolerance * reference)

/-- The fixed reference: the key of the lowest-numbered fixed position whose key is present (R103). -/
def fixedReference (s : State) (i : StringNo) : Option Nat :=
  (List.range s.bank[i].count).findSome? fun pos =>
    if positionFixed s i pos then positionKey s i pos else none

/-! ## String records (R104, R105) -/

/-- Change one string record. -/
def updateRecord (i : StringNo) (f : StringRecord → StringRecord) (s : State) : State :=
  { s with records := s.records.set i (f s.records[i]) }

/-- The review marks with that of a position cleared. -/
def clearReview (pos : Nat) (r : StringRecord) : StringRecord :=
  { r with review := r.review &&& ~~~(BitVec.ofNat 16 (2 ^ pos)) }

/-- The review marks with that of a position set. -/
def setReview (pos : Nat) (r : StringRecord) : StringRecord :=
  { r with review := r.review ||| BitVec.ofNat 16 (2 ^ pos) }

/-- A PLANNED string from which a slot leaves becomes INCOMPLETE (R104). -/
def noteLeave (r : StringRecord) : StringRecord :=
  if r.state = .planned then { r with state := .incomplete } else r

/-- Every position of an enabled string is fixed. -/
def whollyFixed (s : State) (i : StringNo) : Bool :=
  s.bank[i].enabled && (List.range s.bank[i].count).all (positionFixed s i)

/-- The string records as start-up and PURGE set them from the fixed positions (R105). -/
def recordsFromFixed (s : State) : State :=
  { s with records := Vector.ofFn fun i =>
      if whollyFixed s i then { state := .planned, reference := fixedReference s i, review := 0 }
      else StringRecord.initial }

/-- The reset of the plan: every place emptied, every string OPEN (R98). -/
def resetPlan (s : State) : State :=
  { s with
    places := Vector.replicate 64 Place.empty
    records := Vector.replicate 8 StringRecord.initial }

/-- The states of the string records 0 to 7, as a PLAN report carries them (R137). -/
def stringStates (s : State) : List StringState := s.records.toList.map (·.state)

/-! ## Leaving a place and eligibility (R10, R110) -/

/-- The places of a position are emptied, its review mark is cleared and a PLANNED string becomes INCOMPLETE
(R10, R112). -/
def emptyPosition (i : StringNo) (pos : Nat) (s : State) : State :=
  updateRecord i (fun r => noteLeave (clearReview pos r))
    (updatePlaces (s.bank[i].placesOf pos) (fun p => { p with slot := none }) s)

/-- A slot leaves the non-fixed place it stands in, its paired partner with it (R10). -/
def leavePlace (i : SlotNo) (s : State) : State :=
  match placeOf s i with
  | none => s
  | some p =>
    if s.places[p].fixed then s
    else
      match ownerOf s.bank p with
      | none => updatePlace p (fun q => { q with slot := none }) s
      | some (string, pos) => emptyPosition string pos s

/-- A slot is GRADED with a grade in the mask (R110). -/
def eligibleIn (mask : BitVec 16) (v : Slot) : Bool :=
  match v with
  | some m => m.state == .graded && mask.getLsbD m.grade
  | none => false

/-- The eligibility rule for one slot: in a non-fixed place and not eligible, it leaves (R110). -/
def applyEligibility (i : SlotNo) (s : State) : State :=
  match placeOf s i with
  | none => s
  | some p =>
    match ownerOf s.bank p with
    | none => s
    | some (string, _) => if eligibleIn s.bank[string].gradeMask s.slots[i] then s else leavePlace i s

/-! ## Review test (R111) -/

/-- The key of a position no longer fits the stored reference (R111). -/
def reviewFails (s : State) (i : StringNo) (pos : Nat) : Bool :=
  match s.records[i].reference, positionKey s i pos with
  | none, _ => false
  | some _, none => true
  | some r, some k => !withinTolerance k r s.bank[i].capTolerance

/-- The review test of a slot whose CAP was written or cleared (R111). -/
def reviewTest (i : SlotNo) (s : State) : State :=
  match placeOf s i with
  | none => s
  | some p =>
    if s.places[p].fixed then s
    else
      match ownerOf s.bank p with
      | none => s
      | some (string, pos) =>
        if s.records[string].state = .planned ∧ reviewFails s string pos = true then
          updateRecord string (setReview pos) s
        else s

/-! ## Disturbance (R129) -/

/-- The entry of a slot in a candidate list. -/
def PlanningRun.entryOf (r : PlanningRun) (i : SlotNo) : Option Candidate :=
  r.candidates.find? fun c => c.slot == i

/-- Set the disturbed mark of an existing run (R129). -/
def disturb (s : State) : State := { s with run := s.run.map fun r => { r with disturbed := true } }

/-- The slot has an entry whose struck mark is clear (R129). -/
def hasUnstruckEntry (s : State) (i : SlotNo) : Bool :=
  match s.run with
  | none => false
  | some r =>
    match r.entryOf i with
    | none => false
    | some c => !c.struck

/-- Disturb the run when the slot has an unstruck entry (R129). -/
def disturbFor (i : SlotNo) (s : State) : State := if hasUnstruckEntry s i then disturb s else s

/-- The slot's CAP or RDC differs from the copies in its entry, in value or in presence (R129). -/
def differsFromEntry (s : State) (i : SlotNo) : Bool :=
  match s.run, s.slots[i] with
  | some r, some m =>
    match r.entryOf i with
    | none => false
    | some c =>
      !c.struck && (m.figures.cap.map (·.value) != some c.cap || m.figures.rdc.map (·.value) != c.rdc)
  | _, _ => false

/-- The figure unit wrote CAP or RDC of a slot (R129). -/
def disturbForFigures (i : SlotNo) (s : State) : State := if differsFromEntry s i then disturb s else s

end Sys2Proof.Machine
end

