-- ==== Sys2Proof/Machine/Figures.lean ====
section
/-! DEFINITION. Figure arithmetic (spec/03): the roundings, CAP and SOH, the correction curve, step results and RDC, SDR, and
the figures one delivery writes. -/

namespace Sys2Proof.Machine

/-! ## Rounding (spec/00, Rounding) -/

/-- Round half up of a non-negative quotient. -/
def roundHalfUp (n d : Nat) : Nat := (2 * n + d) / (2 * d)

/-- Round half away from zero of a signed quotient with a positive divisor. -/
def roundHalfAway (n : Int) (d : Nat) : Int :=
  if n < 0 then -((roundHalfUp n.natAbs d : Nat) : Int) else (roundHalfUp n.natAbs d : Nat)

/-- A value limited to a maximum, with the saturated mark set when it exceeded it (R51, R52, R60, R64). -/
def saturate (limit v : Nat) : MarkedFigure :=
  if limit < v then { value := limit, saturated := true } else { value := v, saturated := false }

/-! ## Capacity and state of health -/

/-- CAP from a complete capacity run (R51). -/
def computeCap (r : CapacityRun) : CapFigure :=
  let f := saturate 65535 (r.accumulator.natAbs / 72000000)
  { value := f.value, clipped := r.clipped, saturated := f.saturated }

/-- SOH from the CAP just written and the rated capacity (R52). -/
def computeSoh (cap rated : Nat) : MarkedFigure := saturate 1500 (cap * 1000 / rated)

/-! ## Correction curve -/

/-- The eight points of a family's curve, in point order (R53). -/
def curveOf (curves : Vector CurvePoint 32) (f : Family) : List CurvePoint :=
  (List.finRange 8).map fun k => curves[f.val * 8 + k.val]'(by omega)

/-- A curve is valid when all its points are written (R53). -/
def curveValid (points : List CurvePoint) : Bool := points.all (·.written)

/-- The interpolated factor between two points (R58). -/
def interpolate (a b : CurvePoint) (t : Int) : Nat :=
  ((a.factor : Int) +
    roundHalfAway (((b.factor : Int) - a.factor) * (t - a.temperature)) (b.temperature - a.temperature).toNat).toNat

/-- The factor of a valid curve at a temperature (R57). -/
def factorAt : List CurvePoint → Int → Nat
  | [], _ => 1000
  | [a], _ => a.factor
  | a :: b :: rest, t =>
    if t ≤ a.temperature then a.factor
    else if t < b.temperature then interpolate a b t
    else factorAt (b :: rest) t

/-- The factor used for a step: 1000 on an invalid curve (R57). -/
def curveFactor (points : List CurvePoint) (t : Int) : Nat :=
  if curveValid points then factorAt points t else 1000

/-! ## Step results, RDC and SDR -/

/-- The measured resistance of a valid step in µΩ (R59). -/
def measuredResistance (c : StepCapture) : Nat := roundHalfUp (c.deltaV.natAbs * 100000) c.deltaI.natAbs

/-- The step result at 25 °C (R60). -/
def stepResult (points : List CurvePoint) (c : StepCapture) : MarkedFigure :=
  saturate 65535 (roundHalfUp (measuredResistance c * curveFactor points c.temperature) 1000)

/-- The step list with a new result: the oldest of five is dropped (R61). -/
def appendStep (steps : List MarkedFigure) (r : MarkedFigure) : List MarkedFigure :=
  (steps ++ [r]).drop (steps.length + 1 - 4)

/-- RDC of a step list: absent when it is empty (R62). -/
def rdcOf (steps : List MarkedFigure) : Option MarkedFigure :=
  if steps.isEmpty then none
  else some {
    value := roundHalfUp ((steps.map (·.value)).sum) steps.length
    saturated := steps.any (·.saturated) }

/-- SDR from a completed rest window (R63, R64). -/
def computeSdr (w : WindowResult) : MarkedFigure :=
  if w.startVoltage ≤ w.endVoltage then { value := 0, saturated := false }
  else saturate 65535 (roundHalfUp ((w.startVoltage - w.endVoltage) * 360000000) w.elapsed)

/-! ## The figures one delivery writes (R49) -/

/-- The figure set with the bits of the figures named. -/
def figureSet (kinds : List FigureKind) : BitVec 6 :=
  kinds.foldl (fun acc k => acc ||| BitVec.ofNat 6 (2 ^ k.code)) 0

/-- The set holds the figure. -/
def hasFigure (set : BitVec 6) (k : FigureKind) : Bool := set.getLsbD k.code

/-- The figures a delivery writes: CAP and SOH from a run, RDC and NSTEP from a step, SDR from a window, TMAX
(R49). -/
def writtenKinds (d : Delivery) : List FigureKind :=
  (if d.run.isSome then [.cap, .soh] else []) ++ (if d.step.isSome then [.rdc, .nstep] else []) ++
    (if d.window.isSome then [.sdr] else []) ++ (if d.tmax.isSome then [.tmax] else [])

/-- CAP and SOH with a complete run's written (R51, R52). -/
def writeRun (rated : Nat) (r : Option CapacityRun) (f : Figures) : Figures :=
  match r with
  | none => f
  | some r => { f with cap := some (computeCap r), soh := some (computeSoh (computeCap r).value rated) }

/-- The step list and RDC with a valid step's written (R60 to R62). -/
def writeStep (points : List CurvePoint) (c : Option StepCapture) (f : Figures) : Figures :=
  match c with
  | none => f
  | some c =>
    let steps := appendStep f.steps (stepResult points c)
    { f with steps := steps, rdc := rdcOf steps }

/-- SDR with a completed window's written (R63). -/
def writeWindow (w : Option WindowResult) (f : Figures) : Figures :=
  match w with
  | none => f
  | some w => { f with sdr := some (computeSdr w) }

/-- TMAX with a handed temperature written (R65). -/
def writeTmax (t : Option Int) (f : Figures) : Figures :=
  match t with
  | none => f
  | some t => { f with tmax := some t }

/-- The figures after a delivery (R49). -/
def writeFigures (points : List CurvePoint) (rated : Nat) (d : Delivery) (f : Figures) : Figures :=
  writeTmax d.tmax (writeWindow d.window (writeStep points d.step (writeRun rated d.run f)))

end Sys2Proof.Machine
end

