-- ==== Sys2Proof/Machine/Grades.lean ====
section
/-! DEFINITION. Grade evaluation (spec/04): criteria, rows, the choice of a grade, the effects of an evaluation on the slot,
its place, the run and the reports, the re-evaluation of all slots, and the certified state of the table. -/

namespace Sys2Proof.Machine

/-! ## Criteria and rows (R71 to R75) -/

/-- The value of a figure, absent when the slot holds none (R71). NSTEP is always present (R62). -/
def figureValue (f : Figures) : FigureKind → Option Int
  | .cap => f.cap.map fun c => (c.value : Int)
  | .soh => f.soh.map fun c => (c.value : Int)
  | .rdc => f.rdc.map fun c => (c.value : Int)
  | .sdr => f.sdr.map fun c => (c.value : Int)
  | .tmax => f.tmax
  | .nstep => some (f.steps.length : Int)

/-- A present figure's outcome is a member of the predicate (R71, R72). -/
def Predicate.holds (p : Predicate) (value threshold : Int) : Bool :=
  if value < threshold then p.less else if value = threshold then p.equal else p.greater

/-- What the criteria of one row give: all true or not with whether an UNKNOWN was met, or the place of the criterion
that defers the evaluation (R72 to R74). -/
def evaluateCriteria (f : Figures) : List Criterion → Nat → Bool → Bool → Nat ⊕ (Bool × Bool)
  | [], _, allTrue, unknownMet => .inr (allTrue, unknownMet)
  | c :: rest, place, allTrue, unknownMet =>
    match figureValue f c.figure with
    | some v => evaluateCriteria f rest (place + 1) (allTrue && c.predicate.holds v c.threshold) unknownMet
    | none =>
      if c.strict then .inl place
      else evaluateCriteria f rest (place + 1) (allTrue && c.predicate.unknown) true

/-- A row is applicable to a family (R73). -/
def applicable (r : GradeRow) (family : Family) : Bool := r.enabled && r.families.getLsbD family.val

/-- The rows from a row number on, in ascending order, with whether an applicable row was seen and an UNKNOWN met
(R73 to R75). -/
def evaluateRows (table : GradeTable) (family : Family) (f : Figures) :
    List (Fin 16) → Bool → Bool → Evaluation
  | [], anyApplicable, unknownMet =>
    if anyApplicable && !unknownMet then .graded 15 none else .graded 0 none
  | i :: rest, anyApplicable, unknownMet =>
    if applicable table[i] family then
      match evaluateCriteria f table[i].criteria 0 true false with
      | .inl place => .deferred i place
      | .inr (true, _) => .graded table[i].code (some i)
      | .inr (false, met) => evaluateRows table family f rest true (unknownMet || met)
    else evaluateRows table family f rest anyApplicable unknownMet

/-- The evaluation of a slot's figures against the table (R73 to R75). -/
def evaluate (table : GradeTable) (family : Family) (f : Figures) : Evaluation :=
  evaluateRows table family f (List.finRange 16) false false

/-! ## Effects of an evaluation (R74, R76, R80, R81) -/

/-- The state a TESTING or GRADED slot takes from its grade (R4). -/
def stateOfGrade (g : Nat) : ModuleState := if g = 0 then .testing else .graded

/-- The grade of a TESTING or GRADED slot is written; a change sets the state, queues GRADE, applies eligibility and
may disturb a run (R76, R80). -/
def gradeRackSlot (i : SlotNo) (m : ModuleRecord) (g : Nat) (row : Option (Fin 16)) (s : State) : State :=
  if g = m.grade then setSlot i (some { m with gradeRow := row }) s
  else
    disturbFor i (applyEligibility i (requestReport (.grade i m.grade g row)
      (setSlot i (some { m with grade := g, gradeRow := row, state := stateOfGrade g }) s)))

/-- The grade of an INSTALLED slot is written; a change moves the drift mark, and DRIFT is queued when the mark
changes (R76, R81). -/
def gradeInstalledSlot (i : SlotNo) (m : ModuleRecord) (installedGrade : Nat) (drift : Bool) (g : Nat)
    (row : Option (Fin 16)) (s : State) : State :=
  if g = m.grade then setSlot i (some { m with gradeRow := row }) s
  else
    let mark := g != installedGrade
    let s := setSlot i (some { m with grade := g, gradeRow := row, state := .installed installedGrade mark }) s
    if mark = drift then s else requestReport (.drift i installedGrade g mark) s

/-- A slot is evaluated and the result takes effect; only a TESTING, GRADED or INSTALLED slot is (R77). -/
def evaluateSlotNow (i : SlotNo) (s : State) : State :=
  match s.slots[i] with
  | none => s
  | some m =>
    match m.state, evaluate s.rows m.family m.figures with
    | .testing, .graded g row => gradeRackSlot i m g row s
    | .graded, .graded g row => gradeRackSlot i m g row s
    | .installed ig drift, .graded g row => gradeInstalledSlot i m ig drift g row s
    | .testing, .deferred row place => requestReport (.strict i row place) s
    | .graded, .deferred row place => requestReport (.strict i row place) s
    | .installed _ _, .deferred row place => requestReport (.strict i row place) s
    | .admitted, _ => s
    | .quarantined _ _, _ => s

/-- The evaluation of a slot, held while the edit window is open (R77, R79). -/
def evaluateSlot (i : SlotNo) (s : State) : State :=
  match s.window with
  | some _ => s
  | none => evaluateSlotNow i s

/-- The re-evaluation of all slots in ascending slot number (R83). -/
def evaluateAll (s : State) : State := (List.finRange 64).foldl (fun s i => evaluateSlot i s) s

/-! ## Certified state (R85) -/

/-- The working grade table is certified (R85). -/
def tableCertified (s : State) : Bool :=
  match s.origin with
  | none => false
  | some image => s.store.certified[image] && !s.modified && s.window.isNone

/-! ## Handing figures on (R66) -/

/-- Figures written for a slot are handed on: restored mark cleared, one FIGURE report, one evaluation unless the
sample made the slot TESTING (R78), and the plan unit's review test and disturbance (R66, R111, R129). -/
def handOn (i : SlotNo) (kinds : List FigureKind) (firstSample : Bool) (s : State) : State :=
  let s := requestReport (.figure i (figureSet kinds)) (updateSlot i (fun m => { m with restored := false }) s)
  let s := if firstSample then s else evaluateSlot i s
  let s := if kinds.contains .cap then reviewTest i s else s
  if kinds.contains .cap || kinds.contains .rdc then disturbForFigures i s else s

/-- The figure unit works on a delivery; a sample that delivers nothing changes no figure (R46, R49, R66). -/
def deliver (i : SlotNo) (d : Delivery) (firstSample : Bool) (s : State) : State :=
  match s.slots[i], writtenKinds d with
  | none, _ => s
  | some _, [] => s
  | some m, k :: ks =>
    handOn i (k :: ks) firstSample
      (setSlot i (some { m with
        figures := writeFigures (curveOf s.curves m.family) m.rated d m.figures }) s)

end Sys2Proof.Machine
end

