-- ==== Sys2Proof/Machine/Slots.lean ====
section
/-! DEFINITION. The slot table's transitions (spec/01): quarantine, becoming VACANT, installation and its release. -/

namespace Sys2Proof.Machine

/-- The installed grade a state holds. -/
def ModuleState.installedGrade : ModuleState → Option Nat
  | .installed g _ => some g
  | .quarantined _ g => g
  | _ => none

/-- The record of a slot that is quarantined: grade 15, no grade row, the tracker with no previous sample; the
installed grade is kept only in a fixed place (R8). -/
def quarantinedRecord (reason : QuarantineReason) (fixed : Bool) (m : ModuleRecord) : ModuleRecord :=
  { m with
    state := .quarantined reason (if fixed then m.state.installedGrade else none)
    grade := 15
    gradeRow := none
    tracker := Tracker.initial }

/-- What quarantine does to the slot's place: the alarm in a fixed place, leaving a non-fixed one (R9, R100). -/
def quarantinePlace (i : SlotNo) (s : State) : State :=
  match placeOf s i with
  | none => s
  | some p => if s.places[p].fixed then updatePlace p (fun q => { q with alarm := true }) s else leavePlace i s

/-- A slot crosses a hard limit: the record, the place, the QUARANTINE report and the disturbance of a run, in that
order (R8, R9, R129). -/
def quarantineSlot (i : SlotNo) (reason : QuarantineReason) (m : ModuleRecord) (s : State) : State :=
  disturbFor i (requestReport (.quarantine i reason m.grade)
    (quarantinePlace i (setSlot i (some (quarantinedRecord reason (inFixedPlace s i) m)) s)))

/-- FIX makes a GRADED slot INSTALLED with its current grade (R5). -/
def installRecord (m : ModuleRecord) : ModuleRecord :=
  if m.state = .graded then { m with state := .installed m.grade false } else m

/-- UNFIX returns a slot from the installed state (R6). -/
def releaseRecord (m : ModuleRecord) : ModuleRecord :=
  match m.state with
  | .installed _ _ => { m with state := stateOfGrade m.grade }
  | .quarantined reason _ => { m with state := .quarantined reason none }
  | _ => m

/-- Change the records of some slots. -/
def updateSlots (is : List SlotNo) (f : ModuleRecord → ModuleRecord) (s : State) : State :=
  is.foldl (fun s i => updateSlot i f s) s

end Sys2Proof.Machine
end

