-- ==== Sys2Proof/Machine/Intake.lean ====
section
/-! DEFINITION. The intake unit (spec/01 R18 to R21, spec/02): phases, gaps, capacity runs, rest windows, step capture, the
work on one accepted sample, acceptance, the observation of sample frames, and node silence. -/

namespace Sys2Proof.Machine

/-! ## One sample against a profile -/

/-- A per-cell profile voltage as the module's (spec/02). -/
def moduleVoltage (perCell cells : Nat) : Nat := perCell * cells

/-- The hard limit a sample crosses, in the order of R31. -/
def hardLimit (p : Profile) (cells : Nat) (x : ClampedSample) : Option QuarantineReason :=
  if moduleVoltage p.hardHigh cells < x.voltage then some .highVoltage
  else if x.voltage < moduleVoltage p.hardLow cells then some .lowVoltage
  else if p.hardTemperature < x.temperature then some .overTemperature
  else none

/-- The phase of a sample (R32). -/
def phaseOf (p : Profile) (current : Int) : Phase :=
  if (p.restThreshold : Int) < current then .charge
  else if current < -(p.restThreshold : Int) then .discharge
  else .rest

/-- The difference of two ticks, modulo 65 536 (R29). -/
def tickDelta (previous tick : Nat) : Nat := (tick + 65536 - previous) % 65536

/-- A gap count after a sample: `none` when the segment is abandoned (R33). -/
def countGap (p : Profile) (gap : Bool) (gaps : Nat) : Option Nat :=
  if gap then (if p.gapAllowance < gaps + 1 then none else some (gaps + 1)) else some gaps

/-- The accumulator held at its limit with its sign (R35). -/
def holdAccumulator (a : Int) : Int :=
  if Config.accumulatorLimit < a then Config.accumulatorLimit
  else if a < -Config.accumulatorLimit then -Config.accumulatorLimit
  else a

/-- A sample is taken into an open run (R35). -/
def takeIntoRun (r : CapacityRun) (prev : Sample) (x : ClampedSample) (used gaps : Nat) : CapacityRun :=
  { accumulator := holdAccumulator (r.accumulator + (prev.current + x.current) * used)
    minVoltage := min r.minVoltage x.voltage
    gaps := gaps
    clipped := r.clipped || x.clipped }

/-- A closing run is complete (R36). -/
def runComplete (p : Profile) (cells : Nat) (r : CapacityRun) : Bool :=
  decide (r.minVoltage ≤ moduleVoltage p.emptyMark cells) && decide (r.accumulator < 0)

/-- The capacity run after a sample and the run it completed: progress, closing or abandonment of an open run, or the
opening of one (R33 to R36). -/
def carryRun (p : Profile) (cells : Nat) (run : Option CapacityRun) (prev : Sample) (x : ClampedSample)
    (phase : Phase) (used : Nat) (gap : Bool) : Option CapacityRun × Option CapacityRun :=
  match run with
  | some r =>
    match countGap p gap r.gaps with
    | none => (none, none)
    | some gaps =>
      let r := takeIntoRun r prev x used gaps
      if phase = .discharge then (some r, none)
      else if runComplete p cells r then (none, some r)
      else (none, none)
  | none =>
    if phase = .discharge ∧ prev.phase ≠ .discharge ∧ moduleVoltage p.fullMark cells ≤ prev.voltage then
      (some { accumulator := 0, minVoltage := x.voltage, gaps := 0, clipped := x.clipped }, none)
    else (none, none)

/-- A step is considered and valid (R43, R44). It uses the raw Δt. -/
def captureStep (p : Profile) (prev : Sample) (x : ClampedSample) (phase : Phase) (delta : Nat) :
    Option StepCapture :=
  let deltaV : Int := (prev.voltage : Int) - x.voltage
  let deltaI : Int := x.current - prev.current
  if phase ≠ .rest ∧ prev.phase = .rest ∧ p.stepMinimum ≤ deltaI.natAbs ∧ delta ≤ p.stepInterval ∧
      prev.clipped = false ∧ x.clipped = false ∧ deltaV * deltaI < 0 then
    some { deltaV := deltaV, deltaI := deltaI, temperature := x.temperature }
  else none

/-- An open window takes a REST sample's time: settling ends, or the window completes (R40, R41). -/
def progressWindow (p : Profile) (w : RestWindow) (x : ClampedSample) (used gaps : Nat) :
    Option RestWindow × Option WindowResult :=
  match w.stage with
  | .settling =>
    if p.settleTime * 1000 ≤ w.elapsed + used then
      (some { stage := .opened x.voltage, elapsed := 0, gaps := gaps }, none)
    else (some { stage := .settling, elapsed := w.elapsed + used, gaps := gaps }, none)
  | .opened v =>
    if p.restWindow * 1000 ≤ w.elapsed + used then
      (none, some { startVoltage := v, endVoltage := x.voltage, elapsed := w.elapsed + used })
    else (some { stage := .opened v, elapsed := w.elapsed + used, gaps := gaps }, none)

/-- The rest window after a sample, before a new one may open: interrupted, abandoned for gaps, or progressed
(R33, R40 to R42). -/
def carryWindow (p : Profile) (window : Option RestWindow) (x : ClampedSample) (phase : Phase) (used : Nat)
    (gap : Bool) : Option RestWindow × Option WindowResult :=
  match window with
  | none => (none, none)
  | some w =>
    if phase ≠ .rest then (none, none)
    else
      match countGap p gap w.gaps with
      | none => (none, none)
      | some gaps => progressWindow p w x used gaps

/-- The charged mark after a sample (R38, R41). -/
def chargedAfter (p : Profile) (cells : Nat) (charged : Bool) (x : ClampedSample) (phase : Phase)
    (completed : Bool) : Bool :=
  match phase with
  | .charge => charged || decide (moduleVoltage p.fullMark cells ≤ x.voltage)
  | .discharge => false
  | _ => charged && !completed

/-- A window opens at a REST sample with the charged mark set and no window (R39). -/
def openWindow (p : Profile) (window : Option RestWindow) (x : ClampedSample) (phase : Phase) (charged : Bool) :
    Option RestWindow :=
  match window with
  | some w => some w
  | none =>
    if phase = .rest ∧ charged = true then
      some { stage := if p.settleTime = 0 then .opened x.voltage else .settling, elapsed := 0, gaps := 0 }
    else none

/-- The temperature handed as a new TMAX (R45). -/
def risingTemperature (tmax : Option Int) (t : Int) : Option Int :=
  match tmax with
  | none => some t
  | some old => if old < t then some t else none

/-- A sample as the tracker's previous sample (R47). -/
def asPrevious (x : ClampedSample) (phase : Phase) : Sample :=
  { voltage := x.voltage, current := x.current, temperature := x.temperature, tick := x.tick, phase := phase,
    clipped := x.clipped }

/-- Steps 3 to 10 of R30 on a sample within the hard limits: the tracker after it and what it delivers. -/
def trackSample (p : Profile) (cells : Nat) (tmax : Option Int) (t : Tracker) (x : ClampedSample) :
    Tracker × Delivery :=
  let phase := phaseOf p x.current
  let hot := risingTemperature tmax x.temperature
  match t.previous with
  | none =>
    let (window, result) := carryWindow p t.window x phase 0 false
    let charged := chargedAfter p cells t.charged x phase result.isSome
    ({ previous := some (asPrevious x phase), phase := phase, charged := charged, run := t.run,
       window := openWindow p window x phase charged },
     { run := none, step := none, window := result, tmax := hot })
  | some prev =>
    let delta := tickDelta prev.tick x.tick
    let gap := decide (p.maxGap < delta)
    let used := min delta p.maxGap
    let (run, complete) := carryRun p cells t.run prev x phase used gap
    let (window, result) := carryWindow p t.window x phase used gap
    let charged := chargedAfter p cells t.charged x phase result.isSome
    ({ previous := some (asPrevious x phase), phase := phase, charged := charged, run := run,
       window := openWindow p window x phase charged },
     { run := complete, step := captureStep p prev x phase delta, window := result, tmax := hot })

/-! ## Acceptance (R28, R29) and the work on one sample (R30) -/

/-- The sample is a duplicate for the slot: Δt 0 (R29). -/
def isDuplicate (t : Tracker) (x : ClampedSample) : Bool :=
  match t.previous with
  | none => false
  | some prev => tickDelta prev.tick x.tick == 0

/-- The sample is accepted for an occupied slot (R28). -/
def accepted (s : State) (m : ModuleRecord) (x : ClampedSample) : Bool :=
  !m.isQuarantined && s.engine == .active && s.profiles[m.family].valid && !isDuplicate m.tracker x

/-- The completed runs count after a sample (R15, R36). -/
def runsAfter (completedRuns : Nat) (d : Delivery) : Nat :=
  if d.run.isSome then min (completedRuns + 1) 255 else completedRuns

/-- The record after steps 2 to 9 of R30. -/
def trackedRecord (m : ModuleRecord) (t : Tracker) (d : Delivery) : ModuleRecord :=
  { m with
    state := if m.state = .admitted then .testing else m.state
    tracker := t
    completedRuns := runsAfter m.completedRuns d }

/-- The work on one sample for one slot (R28, R30). -/
def workSample (i : SlotNo) (x : ClampedSample) (s : State) : State :=
  match s.slots[i] with
  | none => s
  | some m =>
    if accepted s m x then
      let p := s.profiles[m.family]
      match hardLimit p m.cells x with
      | some reason => quarantineSlot i reason m s
      | none =>
        let (t, d) := trackSample p m.cells m.figures.tmax m.tracker x
        deliver i d (m.state == .admitted) (setSlot i (some (trackedRecord m t d)) s)
    else s

/-! ## Observation (R19, R21, R25 to R27) -/

/-- The value of an integer clamped to a range. -/
def clampInt (lo hi v : Int) : Int := if v < lo then lo else if hi < v then hi else v

/-- The first byte of channel entry `k` of a sample payload (spec/12). -/
def channelOffset (k : Nat) : Nat := 3 + 10 * k

/-- A channel entry is used: index 0 to 7, valid mark set, no earlier entry with the same index (R26). -/
def entryUsed (payload : List Byte) (k : Nat) : Bool :=
  decide (byteAt payload (channelOffset k) ≤ 7) && byteAt payload (channelOffset k + 1) % 2 == 1 &&
    (List.range k).all fun j => byteAt payload (channelOffset j) != byteAt payload (channelOffset k)

/-- The sample of a channel entry, clamped, with its clipped mark (R27, R178). -/
def channelSample (payload : List Byte) (k : Nat) : ClampedSample :=
  let v := unsignedAt payload (channelOffset k + 2) 3
  let c := signedAt payload (channelOffset k + 5) 3
  let t := signedAt payload (channelOffset k + 8) 2
  { voltage := min v 800000
    current := clampInt (-500000) 500000 c
    temperature := clampInt (-400) 1250 t
    tick := unsignedAt payload 0 2
    clipped := min v 800000 != v || clampInt (-500000) 500000 c != c || clampInt (-400) 1250 t != t }

/-- The slot map index of a node's channel (R16). -/
def slotMapIndex (node channel : Nat) : Nat := (node - 1) * 8 + channel

/-- The slot a node's channel is mapped to (R16). -/
def resolve (s : State) (node channel : Nat) : Option SlotNo :=
  match s.slotMap[slotMapIndex node channel]? with
  | some (some i) => some i
  | _ => none

/-- One channel entry of a well-formed observed frame (R26, R28, R48). -/
def workEntry (node : Nat) (payload : List Byte) (k : Nat) (s : State) : State :=
  if entryUsed payload k then
    match resolve s node (byteAt payload (channelOffset k)) with
    | none => s
    | some i => workSample i (channelSample payload k) s
  else s

/-- Change the node register entry of a node 1 to 16. -/
def updateNode (node : Nat) (f : NodeEntry → NodeEntry) (s : State) : State :=
  match s.nodes[node - 1]? with
  | none => s
  | some e => { s with nodes := s.nodes.setIfInBounds (node - 1) (f e) }

/-- A sample payload is malformed (R25). -/
def payloadMalformed (payload : List Byte) : Bool :=
  decide (payload.length < 3) || decide (byteAt payload 2 < 1) || decide (8 < byteAt payload 2) ||
    payload.length != 3 + 10 * byteAt payload 2

/-- The node register entry after a well-formed frame: last tick, last arrival, count, and the silence lifted
(R19, R21). -/
def noteArrival (tick now : Nat) (e : NodeEntry) : NodeEntry :=
  { e with lastTick := some tick, lastArrival := some now, silent := false,
           sampleFrames := countUp e.sampleFrames }

/-- The observation of a sample frame from a node (R25). -/
def observe (node : Nat) (payload : List Byte) (s : State) : State :=
  if payloadMalformed payload then
    countMalformed (updateNode node (fun e => { e with malformed := countUp e.malformed }) s)
  else
    (List.range (byteAt payload 2)).foldl (fun s k => workEntry node payload k s)
      (updateNode node (noteArrival (unsignedAt payload 0 2) s.engineTime) s)

/-! ## Node silence (R20) -/

/-- The slots that the assigned entries of a node name (R20). -/
def nodeSlots (s : State) (node : Nat) : List SlotNo := (List.range 8).filterMap (resolve s node)

/-- The silence timeout of a node has come (R20). -/
def silenceDue (s : State) (node : Nat) : Bool :=
  s.engine == .active && decide (1 ≤ node) && !(nodeSlots s node).isEmpty &&
    match s.nodes[node - 1]? with
    | some { lastArrival := some t, silent := false, .. } => decide (t + s.settings.silenceTimeout ≤ s.engineTime)
    | _ => false

/-- The set of nodes whose silent mark is set: bit n − 1 for node n (spec/12). -/
def silentNodes (s : State) : BitVec 16 :=
  (List.finRange 16).foldl (fun acc k => if s.nodes[k].silent then acc ||| BitVec.ofNat 16 (2 ^ k.val) else acc) 0

/-- A node falls silent: the mark, the segment resets and the SILENT report (R20). -/
def fallSilent (node : Nat) (s : State) : State :=
  let s := updateNode node (fun e => { e with silent := true }) s
  let s := (nodeSlots s node).foldl (fun s i => resetSegments i s) s
  requestReport (.silent node (silentNodes s)) s

/-- NODE_SILENCE (R20): time passes, and the node falls silent when its timeout has come. -/
def execNodeSilence (node elapsed : Nat) (s : State) : Host.Outcome State Fault Refusal :=
  let s := advance elapsed s
  .next (if silenceDue s node then startPorts (fallSilent node s) else s)

end Sys2Proof.Machine
end

