-- ==== Sys2Proof/Machine/Readout.lean ====
section
/-! DEFINITION. The read-out forms of the tables (spec/12, Read-out forms; R179) and the data of IDENTIFY and STATUS. -/

namespace Sys2Proof.Machine

/-- A number that reads 0 when it is absent (R179). -/
def orZero (v : Option Nat) : Nat := v.getD 0

/-! ## Table entries -/

/-- A slot map entry: the slot, or 255 for unassigned. -/
def slotMapBytes (e : Option SlotNo) : List Byte := byteOrNone (e.map (·.val))

/-- The write form of a profile. -/
def profileForm (p : Profile) : List Byte :=
  toBytes 2 p.fullMark ++ toBytes 2 p.emptyMark ++ toBytes 2 p.hardHigh ++ toBytes 2 p.hardLow ++
    toBytes 2 p.restThreshold ++ toBytes 3 p.stepMinimum ++ toBytes 2 p.stepInterval ++ toBytes 2 p.settleTime ++
    toBytes 3 p.restWindow ++ toBytes 2 p.maxGap ++ toBytes 1 p.gapAllowance ++ intBytes 2 p.hardTemperature

/-- The read-out of a profile: valid mark, then the write form. -/
def profileBytes (p : Profile) : List Byte := toBytes 1 (markBit 0 p.valid) ++ profileForm p

/-- The read-out of a curve point: written mark, then the write form. -/
def curveBytes (c : CurvePoint) : List Byte :=
  toBytes 1 (markBit 0 c.written) ++ intBytes 2 c.temperature ++ toBytes 2 c.factor

/-- The predicate byte of a criterion with its strict mark. -/
def predicateByte (c : Criterion) : Nat :=
  markBit 0 c.predicate.less + markBit 1 c.predicate.equal + markBit 2 c.predicate.greater +
    markBit 3 c.predicate.unknown + markBit 4 c.strict

/-- One criterion place; beyond the count it reads as the empty criterion (R69, R179). -/
def criterionBytes : Option Criterion → List Byte
  | none => [0, 0, 0, 0, 0]
  | some c => toBytes 1 c.figure.code ++ toBytes 1 (predicateByte c) ++ intBytes 3 c.threshold

/-- The read-out of a grade row. -/
def gradeRowBytes (r : GradeRow) : List Byte :=
  toBytes 1 (markBit 0 r.enabled) ++ toBytes 1 r.code ++ toBytes 1 r.families.toNat ++ toBytes 1 r.criteria.length ++
    (List.range 4).flatMap fun k => criterionBytes r.criteria[k]?

/-- The read-out of a string of the bank map. -/
def bankStringBytes (b : BankString) : List Byte :=
  toBytes 1 (markBit 0 b.enabled) ++ toBytes 1 b.family.val ++ toBytes 1 (markBit 0 (b.kind == .paired)) ++
    toBytes 1 b.first ++ toBytes 1 b.count ++ toBytes 2 b.gradeMask.toNat ++ toBytes 2 b.capTolerance ++
    toBytes 2 b.pairTolerance

/-- The read-out of a node register entry; the last arrival carries the low 32 bits of engine time (R179). -/
def nodeBytes (index : Nat) (e : NodeEntry) : List Byte :=
  toBytes 1 (index + 1) ++
    toBytes 1 (markBit 0 e.lastTick.isSome + markBit 1 e.lastArrival.isSome + markBit 2 e.silent) ++
    toBytes 2 (orZero e.lastTick) ++ toBytes 4 (orZero e.lastArrival) ++ toBytes 2 e.sampleFrames ++
    toBytes 2 e.malformed

/-- The read-out of a place with its owning string and position, 255 for none. -/
def placeBytes (s : State) (p : PlaceNo) : List Byte :=
  toBytes 1 p.val ++ byteOrNone (s.places[p].slot.map (·.val)) ++
    toBytes 1 (markBit 0 s.places[p].fixed + markBit 1 s.places[p].alarm) ++
    byteOrNone ((ownerOf s.bank p).map fun o => o.1.val) ++ byteOrNone ((ownerOf s.bank p).map fun o => o.2)

/-- The read-out of a string record. -/
def stringRecordBytes (i : Nat) (r : StringRecord) : List Byte :=
  toBytes 1 i ++ toBytes 1 r.state.code ++ toBytes 1 (markBit 0 r.reference.isSome) ++
    toBytes 3 (orZero r.reference) ++ toBytes 2 r.review.toNat

/-- The identity entry; an invalid image 0 reads the unique number as 0 (R157). -/
def identityBytes (s : State) : List Byte :=
  toBytes 2 Config.partCode ++ [Config.siliconRevision] ++
    toBytes 8 (orZero (s.store.identity.map (·.toNat))) ++ toBytes 1 (markBit 0 s.store.identity.isSome)

/-- The read-out of the settings (table 9). -/
def settingsBytes (c : Settings) : List Byte :=
  toBytes 1 c.bootImage ++ toBytes 1 c.addressSource.toNat ++ toBytes 1 c.storedAddress.toNat ++
    toBytes 2 c.silenceTimeout ++ toBytes 1 c.autoRerun ++ toBytes 2 c.defaultMask.toNat

/-! ## The slot record (spec/12, 84 bytes) -/

/-- The drift mark of a state that has one. -/
def ModuleState.drift : ModuleState → Option Bool
  | .installed _ d => some d
  | _ => none

/-- The quarantine reason of a state that has one. -/
def ModuleState.reason : ModuleState → Option QuarantineReason
  | .quarantined r _ => some r
  | _ => none

/-- The presence bits of a slot record. -/
def presenceBits (m : ModuleRecord) (place : Option PlaceNo) : Nat :=
  markBit 0 m.figures.cap.isSome + markBit 1 m.figures.soh.isSome + markBit 2 m.figures.rdc.isSome +
    markBit 3 m.figures.sdr.isSome + markBit 4 m.figures.tmax.isSome + markBit 5 m.gradeRow.isSome +
    markBit 6 m.state.installedGrade.isSome + markBit 7 m.state.drift.isSome + markBit 8 place.isSome +
    markBit 9 m.state.reason.isSome + markBit 10 m.tracker.previous.isSome + markBit 11 m.tracker.run.isSome +
    markBit 12 m.tracker.window.isSome

/-- Bytes 24 to 44: the figures with their marks, and the step list with its marks. -/
def figureBytes (f : Figures) : List Byte :=
  toBytes 2 (orZero (f.cap.map (·.value))) ++ toBytes 2 (orZero (f.soh.map (·.value))) ++
    toBytes 2 (orZero (f.rdc.map (·.value))) ++ toBytes 2 (orZero (f.sdr.map (·.value))) ++
    intBytes 2 (f.tmax.getD 0) ++ toBytes 1 f.steps.length ++
    toBytes 1 (markBit 0 (f.cap.any (·.clipped)) + markBit 1 (f.cap.any (·.saturated)) +
      markBit 2 (f.soh.any (·.saturated)) + markBit 3 (f.rdc.any (·.saturated)) +
      markBit 4 (f.sdr.any (·.saturated))) ++
    (List.range 4).flatMap (fun k => toBytes 2 (orZero (f.steps[k]?.map (·.value)))) ++
    toBytes 1 (((List.range 4).map fun k => markBit k (f.steps[k]?.any (·.saturated))).sum)

/-- Bytes 52 to 63: the previous sample, the tracker phase and the sample marks. -/
def previousBytes (t : Tracker) : List Byte :=
  toBytes 3 (orZero (t.previous.map (·.voltage))) ++ intBytes 3 ((t.previous.map (·.current)).getD 0) ++
    intBytes 2 ((t.previous.map (·.temperature)).getD 0) ++ toBytes 2 (orZero (t.previous.map (·.tick))) ++
    toBytes 1 (phaseCode t.phase) ++
    toBytes 1 (markBit 0 (t.previous.any (·.clipped)) + markBit 1 (t.run.any (·.clipped)))

/-- Bytes 64 to 74: the capacity run. -/
def runBytes (r : Option CapacityRun) : List Byte :=
  intBytes 7 ((r.map (·.accumulator)).getD 0) ++ toBytes 3 (orZero (r.map (·.minVoltage))) ++
    toBytes 1 (orZero (r.map (·.gaps)))

/-- The start voltage of a stage, which SETTLING does not have. -/
def WindowStage.startVoltage : WindowStage → Option Nat
  | .settling => none
  | .opened v => some v

/-- Bytes 75 to 83: the rest window. -/
def windowBytes (w : Option RestWindow) : List Byte :=
  toBytes 1 (markBit 0 (w.any fun w => w.stage.startVoltage.isSome)) ++ toBytes 4 (orZero (w.map (·.elapsed))) ++
    toBytes 3 (orZero (w.bind fun w => w.stage.startVoltage)) ++ toBytes 1 (orZero (w.map (·.gaps)))

/-- The body of an occupied slot record from its presence bits on. -/
def moduleBytes (m : ModuleRecord) (place : Option PlaceNo) : List Byte :=
  toBytes 2 (presenceBits m place) ++ m.tag ++ toBytes 1 m.family.val ++ toBytes 1 m.cells ++ toBytes 2 m.rated ++
    figureBytes m.figures ++
    toBytes 1 m.grade ++ toBytes 1 (orZero (m.gradeRow.map (·.val))) ++ toBytes 1 (orZero m.state.installedGrade) ++
    toBytes 1 (markBit 0 (m.state.drift.getD false) + markBit 1 m.restored + markBit 2 m.tracker.charged) ++
    toBytes 1 (orZero (place.map (·.val))) ++ toBytes 1 (orZero (m.state.reason.map (·.code))) ++
    toBytes 1 m.completedRuns ++
    previousBytes m.tracker ++ runBytes m.tracker.run ++ windowBytes m.tracker.window

/-- The read-out of a slot record; every absent field reads 0 (R179). -/
def slotRecordBytes (s : State) (i : SlotNo) : List Byte :=
  toBytes 1 i.val ++ toBytes 1 (slotStateCode s.slots[i]) ++
    match s.slots[i] with
    | none => List.replicate 82 0
    | some m => moduleBytes m (placeOf s i)

/-! ## Reading tables (R154) -/

/-- The read-out form of an entry of a table. -/
def entryBytes (s : State) (table index : Nat) : List Byte :=
  match table with
  | 0 => slotMapBytes (s.slotMap[index]?.getD none)
  | 1 => profileBytes (s.profiles[index]?.getD Profile.invalid)
  | 2 => curveBytes (s.curves[index]?.getD CurvePoint.unwritten)
  | 3 => gradeRowBytes (s.rows[index]?.getD GradeRow.empty)
  | 4 => bankStringBytes (s.bank[index]?.getD BankString.default)
  | 5 => nodeBytes index (s.nodes[index]?.getD NodeEntry.initial)
  | 6 => if h : index < 64 then slotRecordBytes s ⟨index, h⟩ else []
  | 7 =>
    if h : index < 64 then placeBytes s ⟨index, h⟩
    else stringRecordBytes (index - 64) (s.records[index - 64]?.getD StringRecord.initial)
  | 8 => identityBytes s
  | 9 => settingsBytes s.settings
  | _ => []

/-- The index after an entry, wrapping to 0 after the last (R154, R155). -/
def nextIndex (table index : Nat) : Nat := if index + 1 < tableEntries table then index + 1 else 0

/-- Up to `n` consecutive whole entries that fit in `room` bytes (R154). -/
def readEntries (s : State) (table : Nat) : Nat → Nat → Nat → List (List Byte)
  | 0, _, _ => []
  | n + 1, index, room =>
    let e := entryBytes s table index
    if e.length ≤ room then e :: readEntries s table n (nextIndex table index) (room - e.length) else []

/-- The bytes an answer has for entries, beside code, outcome, table, index and count (R154). -/
def readRoom : Nat := Config.maxPayload - 5

/-- The pointer moved on by a number of entries (R154). -/
def advancePointer (n : Nat) (s : State) : State :=
  { s with pointer := { s.pointer with index := Nat.repeat (nextIndex s.pointer.table) n s.pointer.index } }

/-- The answer to a READ of `n` (R154). -/
def readReply (n : Nat) (s : State) : Reply State :=
  let entries := readEntries s s.pointer.table n s.pointer.index readRoom
  { outcome := .done
    data := toBytes 1 s.pointer.table ++ toBytes 1 s.pointer.index ++ toBytes 1 entries.length ++ entries.flatten
    state := advancePointer entries.length s }

/-! ## Engine status (R164) -/

/-- The code of the run state (spec/12). -/
def runStateCode : Option PlanningRun → Nat
  | none => 0
  | some r =>
    match r.mode with
    | .running => 1
    | .held => 2

/-- The code of the engine state in STATUS. -/
def engineStateCode : EngineState → Nat
  | .starting => 0
  | .active => 1
  | .bypass => 2

/-- The data of STATUS, with the purge-enable mark as it stood before it (R164). -/
def statusBytes (purgeMark : Bool) (s : State) : List Byte :=
  toBytes 1 (engineStateCode s.engine) ++ toBytes 1 s.restartCause.code ++ toBytes 2 s.foundValid.toNat ++
    toBytes 1 s.installResult.code ++ toBytes 1 (runStateCode s.run) ++
    byteOrNone ((s.run.bind (·.current)).map fun c => c.string.val) ++
    toBytes 1 (markBit 0 (s.run.any (·.disturbed)) + markBit 1 s.window.isSome + markBit 2 s.modified +
      markBit 3 (tableCertified s) + markBit 4 s.storeWork.isSome + markBit 5 s.latch + markBit 6 purgeMark +
      markBit 7 s.addressDefaulted) ++
    byteOrNone (s.origin.map fun g => g.val + 5) ++ toBytes 1 s.engineAddress ++ toBytes 2 s.causeFlags.toNat ++
    toBytes 2 s.reportMask.toNat ++ toBytes 2 s.counters.badCheck ++ toBytes 2 s.counters.malformed ++
    toBytes 2 s.counters.upOverflow ++ toBytes 2 s.counters.downOverflow ++
    toBytes 2 s.counters.directiveOverflow ++ toBytes 2 s.counters.reportOverflow

/-- The data of IDENTIFY: the identity entry and the engine address (R157). -/
def identifyBytes (s : State) : List Byte := identityBytes s ++ toBytes 1 s.engineAddress

end Sys2Proof.Machine
end

