-- ==== Sys2Proof/Machine/Tables.lean ====
section
/-! DEFINITION. Table access and the table writes: SEEK, READ, NEXT, FIELD MASK, and the WRITE rules of tables 0 to 4 and 9
(spec/08, and the rules of the owning chapters). -/

namespace Sys2Proof.Machine

/-! ## SEEK, READ, NEXT, FIELD MASK -/

/-- The rule of SEEK (R153). -/
def seekRule (params : List Byte) (s : State) : Reply State :=
  if 9 < byteAt params 0 ∨ tableEntries (byteAt params 0) ≤ byteAt params 1 then refuse .range s
  else accept { s with pointer := { table := byteAt params 0, index := byteAt params 1 } }

/-- The rule of READ (R154). -/
def readRule (params : List Byte) (s : State) : Reply State :=
  if byteAt params 0 < 1 ∨ 8 < byteAt params 0 then refuse .range s else readReply (byteAt params 0) s

/-- The rule of FIELD MASK (R156). -/
def fieldMaskRule (params : List Byte) (s : State) : Reply State :=
  accept { s with fieldMask := some (setAt params 0) }

/-- SEEK (R153). -/
def execSeek (tag : Byte) (params : List Byte) (s : State) : Host.Outcome State Fault Refusal :=
  .next (runDirective tag 16 params false (seekRule params) s)

/-- READ (R154). -/
def execRead (tag : Byte) (params : List Byte) (s : State) : Host.Outcome State Fault Refusal :=
  .next (runDirective tag 17 params false (readRule params) s)

/-- NEXT, answered exactly as a READ of 1 (R154). -/
def execNext (tag : Byte) (params : List Byte) (s : State) : Host.Outcome State Fault Refusal :=
  .next (runDirective tag 18 params false (readReply 1) s)

/-- FIELD MASK (R156). -/
def execFieldMask (tag : Byte) (params : List Byte) (s : State) : Host.Outcome State Fault Refusal :=
  .next (runDirective tag 19 params false (fieldMaskRule params) s)

/-! ## WRITE (R155) -/

/-- The length test of R155, the owning table's rule, and the pointer's advance when it is accepted. -/
def writeEntry (params : List Byte) (rule : State → Reply State) (s : State) : Reply State :=
  if some params.length = writeFormLength s.pointer.table then
    let r := rule s
    if r.outcome = .done then { r with state := advancePointer 1 r.state } else r
  else refuse .malformed s

/-- A WRITE while the pointer names `table`; with the pointer elsewhere the event cannot happen (log entries 4, 6). -/
def runWrite (table : Nat) (tag : Byte) (params : List Byte) (rule : State → Reply State) (s : State) : State :=
  if s.pointer.table = table then runDirective tag codeWrite params false (writeEntry params rule) s else s

/-- WRITE to a read-only table 5 to 8 (R155). -/
def execWrite (tag : Byte) (params : List Byte) (s : State) : Host.Outcome State Fault Refusal :=
  .next (if 5 ≤ s.pointer.table ∧ s.pointer.table ≤ 8 then
    runDirective tag codeWrite params false (refuse .readOnly) s else s)

/-! ## Table 0: the slot map (R17) -/

/-- Another slot map entry names the slot (R17). -/
def namedElsewhere (map : Vector (Option SlotNo) 128) (index : Nat) (i : SlotNo) : Bool :=
  (List.finRange 128).any fun k => k.val != index && map[k] == some i

/-- The segment reset of a slot that may be none. -/
def resetNamed (v : Option SlotNo) (s : State) : State :=
  match v with
  | none => s
  | some i => resetSegments i s

/-- A slot map entry takes a new value, and the old and new slots' segments are reset (R17). -/
def assignEntry (index : Nat) (v : Option SlotNo) (s : State) : State :=
  let old := s.slotMap[index]?.getD none
  if v = old then s
  else resetNamed v (resetNamed old { s with slotMap := s.slotMap.setIfInBounds index v })

/-- The rule of a WRITE to table 0 (R17). A mask has no effect. -/
def slotMapRule (params : List Byte) (s : State) : Reply State :=
  if byteAt params 0 = 255 then accept (assignEntry s.pointer.index none s)
  else if h : byteAt params 0 < 64 then
    if namedElsewhere s.slotMap s.pointer.index ⟨byteAt params 0, h⟩ then refuse .duplicate s
    else accept (assignEntry s.pointer.index (some ⟨byteAt params 0, h⟩) s)
  else refuse .range s

/-- SLOT_MAP_WRITE (R17). -/
def execSlotMapWrite (tag : Byte) (params : List Byte) (s : State) : Host.Outcome State Fault Refusal :=
  .next (runWrite 0 tag params (slotMapRule params) s)

/-! ## Table 1: the profiles (R23, R24) -/

/-- The profile that would result from a write under a mask, with its valid mark set (R23). -/
def resultingProfile (mask : Option (BitVec 16)) (old : Profile) (d : List Byte) : Profile :=
  { valid := true
    fullMark := masked mask 0 old.fullMark (unsignedAt d 0 2)
    emptyMark := masked mask 1 old.emptyMark (unsignedAt d 2 2)
    hardHigh := masked mask 2 old.hardHigh (unsignedAt d 4 2)
    hardLow := masked mask 3 old.hardLow (unsignedAt d 6 2)
    restThreshold := masked mask 4 old.restThreshold (unsignedAt d 8 2)
    stepMinimum := masked mask 5 old.stepMinimum (unsignedAt d 10 3)
    stepInterval := masked mask 6 old.stepInterval (unsignedAt d 13 2)
    settleTime := masked mask 7 old.settleTime (unsignedAt d 15 2)
    restWindow := masked mask 8 old.restWindow (unsignedAt d 17 3)
    maxGap := masked mask 9 old.maxGap (unsignedAt d 20 2)
    gapAllowance := masked mask 10 old.gapAllowance (unsignedAt d 22 1)
    hardTemperature := masked mask 11 old.hardTemperature (signedAt d 23 2) }

/-- A number lies in a range. -/
def inRange (lo hi v : Nat) : Bool := decide (lo ≤ v) && decide (v ≤ hi)

/-- Every field of a profile lies in its range (R23). -/
def profileInRange (p : Profile) : Bool :=
  inRange 20000 50000 p.fullMark && inRange 20000 50000 p.emptyMark && inRange 20000 50000 p.hardHigh &&
    inRange 20000 50000 p.hardLow && inRange 1 20000 p.restThreshold && inRange 100 200000 p.stepMinimum &&
    inRange 1 1000 p.stepInterval && inRange 0 7200 p.settleTime && inRange 600 86400 p.restWindow &&
    inRange 100 10000 p.maxGap && inRange 0 255 p.gapAllowance &&
    decide (-400 ≤ p.hardTemperature) && decide (p.hardTemperature ≤ 1000)

/-- The four voltages stand in the strict order of R23. -/
def profileOrdered (p : Profile) : Bool :=
  decide (p.hardLow < p.emptyMark) && decide (p.emptyMark < p.fullMark) && decide (p.fullMark < p.hardHigh)

/-- The rule of a WRITE to table 1 (R23, R24). -/
def profileRule (mask : Option (BitVec 16)) (params : List Byte) (s : State) : Reply State :=
  let p := resultingProfile mask (s.profiles[s.pointer.index]?.getD Profile.invalid) params
  if profileInRange p = false then refuse .range s
  else if profileOrdered p = false then refuse .order s
  else
    accept (resetSegmentsWhere (fun _ m => m.family.val == s.pointer.index)
      { s with profiles := s.profiles.setIfInBounds s.pointer.index p })

/-- PROFILE_WRITE (R23, R24). -/
def execProfileWrite (tag : Byte) (params : List Byte) (s : State) : Host.Outcome State Fault Refusal :=
  .next (runWrite 1 tag params (profileRule s.fieldMask params) s)

/-! ## Table 2: the curve points (R54, R55) -/

/-- A written point keeps the written points of its curve in strict order (R55). -/
def curveOrderKept (curves : Vector CurvePoint 32) (index : Nat) (t : Int) : Bool :=
  (List.finRange 32).all fun k =>
    if k.val / 8 = index / 8 ∧ curves[k].written = true then
      (!decide (k.val < index) || decide (curves[k].temperature < t)) &&
        (!decide (index < k.val) || decide (t < curves[k].temperature))
    else true

/-- The rule of a WRITE to table 2: the erase value, then RANGE, then ORDER (R54, R55). -/
def curveRule (mask : Option (BitVec 16)) (params : List Byte) (s : State) : Reply State :=
  let old := s.curves[s.pointer.index]?.getD CurvePoint.unwritten
  let t := masked mask 0 old.temperature (signedAt params 0 2)
  let f := masked mask 1 old.factor (unsignedAt params 2 2)
  if f = 0 then accept { s with curves := s.curves.setIfInBounds s.pointer.index CurvePoint.unwritten }
  else if t < -400 ∨ 1250 < t ∨ f < 500 ∨ 2000 < f then refuse .range s
  else if curveOrderKept s.curves s.pointer.index t = false then refuse .order s
  else
    accept { s with curves := s.curves.setIfInBounds s.pointer.index
                                { written := true, temperature := t, factor := f } }

/-- CURVE_WRITE (R54). -/
def execCurveWrite (tag : Byte) (params : List Byte) (s : State) : Host.Outcome State Fault Refusal :=
  .next (runWrite 2 tag params (curveRule s.fieldMask params) s)

/-! ## Table 3: the grade rows (R70, R88, R89) -/

/-- The range a threshold is clamped to, by its figure (R70). -/
def clampThreshold (k : FigureKind) (v : Int) : Int :=
  match k with
  | .cap => clampInt 0 65535 v
  | .soh => clampInt 0 1500 v
  | .rdc => clampInt 0 65535 v
  | .sdr => clampInt 0 65535 v
  | .tmax => clampInt (-400) 1250 v
  | .nstep => clampInt 0 4 v

/-- The byte at which criterion place `k` of the write form begins. -/
def criterionOffset (k : Nat) : Nat := 4 + 5 * k

/-- The threshold written for criterion place `k`. -/
def writtenThreshold (d : List Byte) (k : Nat) : Int := signedAt d (criterionOffset k + 2) 3

/-- The figure, predicate and strict mark written for criterion place `k`, with the written threshold; none when the
figure code names no figure (R178). -/
def writtenCriterion (d : List Byte) (k : Nat) : Option Criterion :=
  let p := byteAt d (criterionOffset k + 1)
  (figureOfCode (byteAt d (criterionOffset k))).map fun figure =>
    { figure := figure
      predicate := { less := p.testBit 0, equal := p.testBit 1, greater := p.testBit 2, unknown := p.testBit 3 }
      strict := p.testBit 4
      threshold := writtenThreshold d k }

/-- The threshold criterion `k` results in: the present one when it is named and exists, else the written one
(R89). -/
def resultingThreshold (mask : Option (BitVec 16)) (old : GradeRow) (d : List Byte) (k : Nat) : Int :=
  match old.criteria[k]? with
  | some c => masked mask (4 + k) c.threshold (writtenThreshold d k)
  | none => writtenThreshold d k

/-- A criterion with its resulting threshold, clamped to the range of its figure (R70, R89). -/
def withThreshold (mask : Option (BitVec 16)) (old : GradeRow) (d : List Byte) (k : Nat) (c : Criterion) : Criterion :=
  { c with threshold := clampThreshold c.figure (resultingThreshold mask old d k) }

/-- The criteria that would result from a write under a mask, each before its threshold is set; none where a written
figure names no figure (R88, R89). -/
def resultingCriteria (mask : Option (BitVec 16)) (old : GradeRow) (d : List Byte) : List (Option Criterion) :=
  if keeps mask 3 then old.criteria.map some else (List.range (byteAt d 3)).map (writtenCriterion d)

/-- Every member of a list of options, when all are present. -/
def allPresent {α : Type} : List (Option α) → Option (List α)
  | [] => some []
  | v :: vs => v.bind fun a => (allPresent vs).map (a :: ·)

/-- Write a grade row inside the window and set its written mark (R89). -/
def storeRow (index : Nat) (r : GradeRow) (s : State) : State :=
  { s with
    rows := s.rows.setIfInBounds index r
    window := s.window.map fun w => { w with written := true } }

/-- The rule of a WRITE to table 3, in the order of R88. -/
def gradeRowRule (mask : Option (BitVec 16)) (params : List Byte) (s : State) : Reply State :=
  let old := s.rows[s.pointer.index]?.getD GradeRow.empty
  let code := masked mask 1 old.code (byteAt params 1)
  let criteria := resultingCriteria mask old params
  if tableCertified s then refuse .certified s
  else if s.window.isNone then refuse .edit s
  else if code < 1 ∨ 15 < code then refuse .range s
  else if 4 < criteria.length then refuse .range s
  else
    match allPresent criteria with
    | none => refuse .range s
    | some cs =>
      accept (storeRow s.pointer.index
        { enabled := masked mask 0 old.enabled (flagAt params 0)
          code := code
          families := masked mask 2 old.families (BitVec.ofNat 4 (byteAt params 2))
          criteria := cs.mapIdx fun k c => withThreshold mask old params k c } s)

/-- GRADE_ROW_WRITE (R88). -/
def execGradeRowWrite (tag : Byte) (params : List Byte) (s : State) : Host.Outcome State Fault Refusal :=
  .next (runWrite 3 tag params (gradeRowRule s.fieldMask params) s)

/-! ## Table 4: the bank map (R96 to R98) -/

/-- The family number that would result from a write under a mask, before its range test (R96, R97). -/
def resultingFamily (mask : Option (BitVec 16)) (old : BankString) (d : List Byte) : Nat :=
  masked mask 1 old.family.val (byteAt d 1)

/-- The string that would result from a write under a mask (R97). -/
def resultingString (mask : Option (BitVec 16)) (old : BankString) (d : List Byte) : BankString :=
  { enabled := masked mask 0 old.enabled (flagAt d 0)
    family := Fin.ofNat 4 (resultingFamily mask old d)
    kind := masked mask 2 old.kind (if flagAt d 2 then .paired else .single)
    first := masked mask 3 old.first (byteAt d 3)
    count := masked mask 4 old.count (byteAt d 4)
    gradeMask := masked mask 5 old.gradeMask (setAt d 5)
    capTolerance := masked mask 6 old.capTolerance (unsignedAt d 7 2)
    pairTolerance := masked mask 7 old.pairTolerance (unsignedAt d 9 2) }

/-- Condition 3 of R96. -/
def stringInRange (family : Nat) (b : BankString) : Bool :=
  decide (family ≤ 3) && inRange 1 16 b.count && decide (b.first ≤ 63) && !b.gradeMask.getLsbD 0 &&
    !b.gradeMask.getLsbD 15 && decide (b.capTolerance ≤ 500)

/-- Two runs of places are disjoint. -/
def spansDisjoint (a b : BankString) : Bool :=
  decide (a.first + a.span ≤ b.first) || decide (b.first + b.span ≤ a.first)

/-- Condition 6 of R96 fails: an enabled string meets the places of another enabled string. -/
def overlapsAnother (bank : BankMap) (index : Nat) (b : BankString) : Bool :=
  b.enabled && (List.finRange 8).any fun k => k.val != index && bank[k].enabled && !spansDisjoint b bank[k]

/-- The rule of a WRITE to table 4, in the order of R96. -/
def bankMapRule (mask : Option (BitVec 16)) (params : List Byte) (s : State) : Reply State :=
  let old := s.bank[s.pointer.index]?.getD BankString.default
  let b := resultingString mask old params
  if s.run.isSome then refuse .busy s
  else if anyFixed s then refuse .fixed s
  else if stringInRange (resultingFamily mask old params) b = false then refuse .range s
  else if 64 < b.first + b.span then refuse .range s
  else if b.kind = .paired ∧ b.first % 2 ≠ 0 then refuse .misaligned s
  else if overlapsAnother s.bank s.pointer.index b then refuse .overlap s
  else accept (resetPlan { s with bank := s.bank.setIfInBounds s.pointer.index b })

/-- BANK_MAP_WRITE (R96). -/
def execBankMapWrite (tag : Byte) (params : List Byte) (s : State) : Host.Outcome State Fault Refusal :=
  .next (runWrite 4 tag params (bankMapRule s.fieldMask params) s)

/-! ## Table 9: the settings (R172) -/

/-- The rule of a WRITE to table 9 (R172). -/
def settingsRule (mask : Option (BitVec 16)) (params : List Byte) (s : State) : Reply State :=
  let old := s.settings
  let boot := masked mask 0 old.bootImage (byteAt params 0)
  let stored := masked mask 2 old.storedAddress.toNat (byteAt params 2)
  let timeout := masked mask 3 old.silenceTimeout (unsignedAt params 3 2)
  let rerun := masked mask 4 old.autoRerun (byteAt params 5)
  if inRange 5 8 boot && decide (stored ≤ 31) && inRange 500 60000 timeout && decide (rerun ≤ 3) then
    accept { s with settings :=
      { bootImage := boot
        addressSource := masked mask 1 old.addressSource (BitVec.ofNat 5 (byteAt params 1))
        storedAddress := BitVec.ofNat 5 stored
        silenceTimeout := timeout
        autoRerun := rerun
        defaultMask := masked mask 5 old.defaultMask (BitVec.ofNat 8 (unsignedAt params 6 2)) } }
  else refuse .range s

/-- SETTINGS_WRITE (R172). -/
def execSettingsWrite (tag : Byte) (params : List Byte) (s : State) : Host.Outcome State Fault Refusal :=
  .next (runWrite 9 tag params (settingsRule s.fieldMask params) s)

end Sys2Proof.Machine
end

