-- ==== Sys2Proof/Machine/Admission.lean ====
section
/-! DEFINITION. The slot directives (spec/01): ADMIT, WITHDRAW and CLEAR FIGURES, and PURGE (spec/11, R177; R158). -/

namespace Sys2Proof.Machine

/-! ## ADMIT (R12) -/

/-- The record of a slot that ADMIT makes ADMITTED (R12). -/
def admittedRecord (tag : List Byte) (family : Family) (cells rated : Nat) : ModuleRecord :=
  { state := .admitted, tag := tag, family := family, cells := cells, rated := rated, figures := Figures.none,
    grade := 0, gradeRow := none, restored := false, completedRuns := 0, tracker := Tracker.initial }

/-- Conditions 3 to 7 of R12 on the family, in order, and the admission. -/
def admitTo (i : SlotNo) (params : List Byte) (s : State) : Reply State :=
  if h : byteAt params 1 < 4 then
    let family : Family := ⟨byteAt params 1, h⟩
    let cells := byteAt params 2
    let rated := unsignedAt params 3 2
    if s.profiles[family].valid = false then refuse .profile s
    else if rated = 0 then refuse .range s
    else if cells < 1 ∨ 24 < cells then refuse .range s
    else if 800000 < cells * s.profiles[family].hardHigh then refuse .range s
    else accept (setSlot i (some (admittedRecord ((params.drop 5).take 16) family cells rated)) s)
  else refuse .range s

/-- The rule of ADMIT, in the order of R12. -/
def admitRule (params : List Byte) (s : State) : Reply State :=
  if h : byteAt params 0 < 64 then
    if s.slots[byteAt params 0].isSome then refuse .state s else admitTo ⟨byteAt params 0, h⟩ params s
  else refuse .range s

/-- ADMIT (R12). -/
def execAdmit (tag : Byte) (params : List Byte) (s : State) : Host.Outcome State Fault Refusal :=
  .next (runDirective tag 32 params false (admitRule params) s)

/-! ## WITHDRAW (R13) -/

/-- What WITHDRAW does, in the order of R13. -/
def withdrawSlot (i : SlotNo) (s : State) : State :=
  setSlot i none (removeReports i (disturbFor i (leavePlace i s)))

/-- The rule of WITHDRAW (R13). -/
def withdrawRule (params : List Byte) (s : State) : Reply State :=
  if h : byteAt params 0 < 64 then
    if s.slots[byteAt params 0].isNone then refuse .state s
    else if inFixedPlace s ⟨byteAt params 0, h⟩ then refuse .fixed s
    else accept (withdrawSlot ⟨byteAt params 0, h⟩ s)
  else refuse .range s

/-- WITHDRAW (R13). -/
def execWithdraw (tag : Byte) (params : List Byte) (s : State) : Host.Outcome State Fault Refusal :=
  .next (runDirective tag 33 params false (withdrawRule params) s)

/-! ## CLEAR FIGURES (R14) -/

/-- The figures that a CLEAR FIGURES set names, from bits 0 to 4 (spec/12). -/
def namedFigures (set : Nat) : List FigureKind :=
  [FigureKind.cap, .soh, .rdc, .sdr, .tmax].filter fun k => set.testBit k.code

/-- The figures made absent: SOH with CAP, and NSTEP with RDC (R14, step 1). -/
def clearedFigures (named : List FigureKind) : List FigureKind :=
  [FigureKind.cap, .soh, .rdc, .sdr, .tmax, .nstep].filter fun k =>
    named.contains k || (k == .soh && named.contains .cap) || (k == .nstep && named.contains .rdc)

/-- The figures with some made absent; RDC takes the step list with it (R14). -/
def clearFigures (cleared : List FigureKind) (f : Figures) : Figures :=
  { cap := if cleared.contains .cap then none else f.cap
    soh := if cleared.contains .soh then none else f.soh
    rdc := if cleared.contains .rdc then none else f.rdc
    sdr := if cleared.contains .sdr then none else f.sdr
    tmax := if cleared.contains .tmax then none else f.tmax
    steps := if cleared.contains .rdc then [] else f.steps }

/-- CLEAR FIGURES reaches a TESTING, GRADED or INSTALLED slot (R14). -/
def isMeasured (m : ModuleRecord) : Bool :=
  match m.state with
  | .testing => true
  | .graded => true
  | .installed _ _ => true
  | _ => false

/-- What CLEAR FIGURES does, in the order of R14, with the review test of R111 last. -/
def clearSlotFigures (i : SlotNo) (named : List FigureKind) (s : State) : State :=
  let cleared := clearedFigures named
  let s := resetSegments i (updateSlot i (fun m => { m with figures := clearFigures cleared m.figures }) s)
  let s := disturbFor i (requestReport (.figure i (figureSet cleared)) s)
  let s := evaluateSlot i s
  if named.contains .cap then reviewTest i s else s

/-- The rule of CLEAR FIGURES (R14). -/
def clearFiguresRule (params : List Byte) (s : State) : Reply State :=
  if h : byteAt params 0 < 64 then
    match namedFigures (byteAt params 1) with
    | [] => refuse .range s
    | k :: ks =>
      if s.slots[byteAt params 0].any isMeasured then accept (clearSlotFigures ⟨byteAt params 0, h⟩ (k :: ks) s)
      else refuse .state s
  else refuse .range s

/-- CLEAR FIGURES (R14). -/
def execClearFigures (tag : Byte) (params : List Byte) (s : State) : Host.Outcome State Fault Refusal :=
  .next (runDirective tag 34 params false (clearFiguresRule params) s)

/-! ## PURGE (R158, R177) -/

/-- The slots that PURGE makes VACANT: the occupied ones that do not stand in a fixed place (R177). -/
def purgedSlots (s : State) : List SlotNo :=
  (List.finRange 64).filter fun i => s.slots[i].isSome && !inFixedPlace s i

/-- PURGE carried out: slots and places, the removal of reports, the string records (R177). -/
def purgeAll (s : State) : State :=
  let gone := purgedSlots s
  recordsFromFixed (gone.foldl (fun s i => removeReports i s)
    { s with
      slots := Vector.ofFn fun i => if inFixedPlace s i then s.slots[i] else none
      places := Vector.ofFn fun p => if s.places[p].fixed then s.places[p] else Place.empty })

/-- The rule of PURGE, with the purge-enable mark as it stood before it (R158). The mark is already cleared. -/
def purgeRule (enabled : Bool) (s : State) : Reply State :=
  if enabled = false then refuse .notEnabled s
  else if s.run.isSome then refuse .busy s
  else accept (purgeAll s)

/-- The rule of PURGE ENABLE (R158). -/
def purgeEnableRule (s : State) : Reply State := accept { s with purgeEnable := true }

/-- PURGE ENABLE (R158). -/
def execPurgeEnable (tag : Byte) (params : List Byte) (s : State) : Host.Outcome State Fault Refusal :=
  .next (runDirective tag 8 params false purgeEnableRule s)

/-- PURGE (R158, R177). -/
def execPurge (tag : Byte) (params : List Byte) (s : State) : Host.Outcome State Fault Refusal :=
  .next (runDirective tag 9 params false (purgeRule s.purgeEnable) s)

end Sys2Proof.Machine
end

