-- ==== Sys2Proof/Machine/Planning.lean ====
section
/-! DEFINITION. Planning runs (spec/06): the candidate list, the start of a run, its opening, filling and completion steps,
adoption and discard, hold, resume and abort. -/

namespace Sys2Proof.Machine

/-! ## The candidate list (R117, R118) -/

/-- A grade is in the mask of some enabled string of a family (R117). -/
def wantedBySome (bank : BankMap) (family : Family) (grade : Nat) : Bool :=
  (List.finRange 8).any fun i =>
    bank[i].enabled && bank[i].family == family && bank[i].gradeMask.getLsbD grade

/-- The entry of a slot that meets the conditions of R117, with the copies of R118. -/
def candidateOf (s : State) (i : SlotNo) : Option Candidate :=
  match s.slots[i] with
  | none => none
  | some m =>
    match m.figures.cap with
    | none => none
    | some cap =>
      if m.state = .graded ∧ inFixedPlace s i = false ∧ wantedBySome s.bank m.family m.grade = true then
        some { slot := i, family := m.family, grade := m.grade, cap := cap.value,
               rdc := m.figures.rdc.map (·.value), taken := false, struck := false }
      else none

/-- RDC ascending with every absent one last, then slot number (R118). -/
def rdcBefore (a b : Candidate) : Bool :=
  match a.rdc, b.rdc with
  | some x, some y => decide (x < y) || (x == y && decide (a.slot < b.slot))
  | some _, none => true
  | none, some _ => false
  | none, none => decide (a.slot < b.slot)

/-- The list order: CAP descending, then RDC, then slot number (R118). -/
def listedBefore (a b : Candidate) : Bool := decide (b.cap < a.cap) || (a.cap == b.cap && rdcBefore a b)

/-- Insert an entry in the list order. -/
def insertCandidate (c : Candidate) : List Candidate → List Candidate
  | [] => [c]
  | d :: rest => if listedBefore c d then c :: d :: rest else d :: insertCandidate c rest

/-- The candidate list of the slots as they stand, sorted once (R117, R118). -/
def candidateList (s : State) : List Candidate :=
  ((List.finRange 64).filterMap (candidateOf s)).foldr insertCandidate []

/-- A run at its start: no string processed, nothing taken, not disturbed (R116, R128). -/
def newRun (s : State) (budget : Nat) : PlanningRun :=
  { mode := .running, current := none, lastProcessed := none, disturbed := false, budget := budget,
    candidates := candidateList s, tentative := [] }

/-! ## Opening (R120) -/

/-- The next enabled string above the last processed one (R120). -/
def nextString (bank : BankMap) (last : Option StringNo) : Option StringNo :=
  (List.finRange 8).find? fun i =>
    bank[i].enabled && match last with
      | none => true
      | some l => decide (l < i)

/-- The non-fixed positions of a string, ascending, by the marks as they stand (R120). -/
def openPositions (s : State) (i : StringNo) : List Nat :=
  (List.range s.bank[i].count).filter fun pos => !positionFixed s i pos

/-- A string is processed: its entry joins the tentative result and no string is current (R120, R123, R124). -/
def processed (r : PlanningRun) (e : TentativeEntry) : PlanningRun :=
  { r with tentative := r.tentative ++ [e], lastProcessed := some e.string, current := none }

/-- The opening of a string: a wholly fixed one is processed at once (R120). -/
def openString (s : State) (r : PlanningRun) (i : StringNo) : PlanningRun :=
  let reference := fixedReference s i
  match openPositions s i with
  | [] => processed r { string := i, planned := true, reference := reference, choices := [] }
  | p :: ps =>
    { r with current := some { string := i, fixedReference := reference, reference := reference,
                               toFill := p :: ps, choices := [] } }

/-! ## Filling (R121 to R124) -/

/-- A candidate is eligible for a string (R121). -/
def candidateEligible (b : BankString) (c : Candidate) : Bool :=
  !c.taken && !c.struck && c.family == b.family && b.gradeMask.getLsbD c.grade

/-- A key passes the test against a tentative reference, when one is set (R121, R122). -/
def fitsReference (b : BankString) (reference : Option Nat) (key : Nat) : Bool :=
  match reference with
  | none => true
  | some r => withinTolerance key r b.capTolerance

/-- The candidate a SINGLE position takes (R121). -/
def chooseSingle (b : BankString) (reference : Option Nat) (cs : List Candidate) : Option Candidate :=
  cs.find? fun c => candidateEligible b c && fitsReference b reference c.cap

/-- The partner `c` is accepted for `a` in a PAIRED position (R122). -/
def pairFits (b : BankString) (reference : Option Nat) (a c : Candidate) : Bool :=
  match a.rdc, c.rdc with
  | some x, some y =>
    candidateEligible b c && decide (distance x y ≤ b.pairTolerance) && fitsReference b reference (a.cap + c.cap)
  | _, _ => false

/-- The pair a PAIRED position takes: the first outer candidate that has an accepted partner after it (R122). -/
def choosePair (b : BankString) (reference : Option Nat) : List Candidate → Option (Candidate × Candidate)
  | [] => none
  | a :: rest =>
    if candidateEligible b a && a.rdc.isSome then
      match rest.find? (pairFits b reference a) with
      | some c => some (a, c)
      | none => choosePair b reference rest
    else choosePair b reference rest

/-- The slots chosen for a position and their key, by the kind of the string (R121, R122). -/
def chooseFor (b : BankString) (reference : Option Nat) (cs : List Candidate) : Option (List SlotNo × Nat) :=
  match b.kind with
  | .single => (chooseSingle b reference cs).map fun c => ([c.slot], c.cap)
  | .paired => (choosePair b reference cs).map fun (a, c) => ([a.slot, c.slot], a.cap + c.cap)

/-- Set or clear the taken marks of some slots' entries. -/
def markTaken (slots : List SlotNo) (v : Bool) (cs : List Candidate) : List Candidate :=
  cs.map fun c => if slots.contains c.slot then { c with taken := v } else c

/-- The slots chosen so far for the current string. -/
def chosenSlots (choices : List Choice) : List SlotNo := choices.flatMap (·.slots)

/-- The string fails: its takes are released and it is processed SHORT with its fixed reference (R123). -/
def failString (r : PlanningRun) (c : CurrentString) : PlanningRun :=
  processed { r with candidates := markTaken (chosenSlots c.choices) false r.candidates }
    { string := c.string, planned := false, reference := c.fixedReference, choices := [] }

/-- A position is filled; the last one makes the string PLANNED (R121, R122, R124). -/
def fillPosition (r : PlanningRun) (c : CurrentString) (pos : Nat) (rest : List Nat) (slots : List SlotNo)
    (key : Nat) : PlanningRun :=
  let choices := c.choices ++ [{ position := pos, slots := slots }]
  let reference := c.reference.or (some key)
  let r := { r with candidates := markTaken slots true r.candidates }
  match rest with
  | [] => processed r { string := c.string, planned := true, reference := reference, choices := choices }
  | p :: ps =>
    { r with current := some { c with reference := reference, toFill := p :: ps, choices := choices } }

/-- The filling step on the current string (R121 to R124). -/
def fillString (bank : BankMap) (r : PlanningRun) (c : CurrentString) : PlanningRun :=
  match c.toFill with
  | [] => r
  | pos :: rest =>
    match chooseFor bank[c.string] c.reference r.candidates with
    | none => failString r c
    | some (slots, key) => fillPosition r c pos rest slots key

/-! ## Completion (R126 to R128, R137) -/

/-- The first pass of an adoption: the non-fixed places of a processed string are emptied (R127). -/
def emptyString (s : State) (i : StringNo) : State :=
  ((List.range s.bank[i].count).filter fun pos => !positionFixed s i pos).foldl
    (fun s pos => updatePlaces (s.bank[i].placesOf pos) (fun p => { p with slot := none }) s) s

/-- A position's places take the slots chosen for it, first member first (R127). -/
def fillPlaces (i : StringNo) (s : State) (c : Choice) : State :=
  ((s.bank[i].placesOf c.position).zip c.slots).foldl
    (fun s (p, slot) => updatePlace p (fun q => { q with slot := some slot }) s) s

/-- The second pass of an adoption for one processed string (R127). A SHORT string has no choices. -/
def fillStringPlaces (s : State) (e : TentativeEntry) : State := e.choices.foldl (fillPlaces e.string) s

/-- The third pass of an adoption: the string record (R127). -/
def adoptRecord (s : State) (e : TentativeEntry) : State :=
  updateRecord e.string (fun _ =>
    { state := if e.planned then .planned else .short, reference := e.reference, review := 0 }) s

/-- The three passes of an adoption over the processed strings (R127). -/
def adoptPlaces (entries : List TentativeEntry) (s : State) : State :=
  let s := entries.foldl (fun s e => emptyString s e.string) s
  let s := entries.foldl fillStringPlaces s
  entries.foldl adoptRecord s

/-- The PLAN report with the string states as they stand (R137). -/
def planReport (outcome : PlanOutcome) (rerun : Bool) (s : State) : State :=
  requestReport (.plan outcome rerun (stringStates s)) s

/-- An undisturbed run is adopted (R127). -/
def adoptRun (r : PlanningRun) (s : State) : State :=
  planReport .adopted false { adoptPlaces r.tentative s with run := none }

/-- A disturbed run is discarded, and starts again while budget remains (R128). -/
def discardRun (r : PlanningRun) (s : State) : State :=
  if r.budget = 0 then planReport .disturbed false { s with run := none }
  else planReport .disturbed true { s with run := some (newRun s (r.budget - 1)) }

/-- An existing run is ended without adoption (R132, R136). -/
def abortRun (s : State) : State :=
  match s.run with
  | none => s
  | some _ => planReport .aborted false { s with run := none }

/-! ## The steps of a run (R115) -/

/-- OPENING (R120): while the run is RUNNING with no current string and an enabled string remains. -/
def execOpening (s : State) : Host.Outcome State Fault Refusal :=
  match s.run with
  | some r =>
    match r.mode, r.current, nextString s.bank r.lastProcessed with
    | .running, none, some i => .next { s with run := some (openString s r i) }
    | _, _, _ => .next s
  | none => .next s

/-- FILLING (R121, R122): while the run is RUNNING with a current string. -/
def execFilling (s : State) : Host.Outcome State Fault Refusal :=
  match s.run with
  | some r =>
    match r.mode, r.current with
    | .running, some c => .next { s with run := some (fillString s.bank r c) }
    | _, _ => .next s
  | none => .next s

/-- COMPLETION (R126): while the run is RUNNING with no current string and no enabled string remains. -/
def execCompletion (s : State) : Host.Outcome State Fault Refusal :=
  match s.run with
  | some r =>
    match r.mode, r.current, nextString s.bank r.lastProcessed with
    | .running, none, none => .next (startPorts (if r.disturbed then discardRun r s else adoptRun r s))
    | _, _, _ => .next s
  | none => .next s

/-! ## Directives of the run -/

/-- The rule of PLAN RUN (R116). -/
def planRunRule (s : State) : Reply State :=
  if s.run.isSome then refuse .busy s
  else if s.window.isSome then refuse .edit s
  else accept { s with run := some (newRun s s.settings.autoRerun) }

/-- The rule of PLAN HOLD (R130). -/
def planHoldRule (s : State) : Reply State :=
  match s.run with
  | some r => if r.mode = .running then accept { s with run := some { r with mode := .held } } else refuse .state s
  | none => refuse .state s

/-- The rule of PLAN RESUME (R131). -/
def planResumeRule (s : State) : Reply State :=
  match s.run with
  | some r => if r.mode = .held then accept { s with run := some { r with mode := .running } } else refuse .state s
  | none => refuse .state s

/-- The rule of PLAN ABORT (R132). -/
def planAbortRule (s : State) : Reply State :=
  if s.run.isSome then accept (abortRun s) else refuse .state s

/-- PLAN RUN (R116). -/
def execPlanRun (tag : Byte) (params : List Byte) (s : State) : Host.Outcome State Fault Refusal :=
  .next (runDirective tag 48 params false planRunRule s)

/-- PLAN HOLD (R130). -/
def execPlanHold (tag : Byte) (params : List Byte) (s : State) : Host.Outcome State Fault Refusal :=
  .next (runDirective tag 49 params false planHoldRule s)

/-- PLAN RESUME (R131). -/
def execPlanResume (tag : Byte) (params : List Byte) (s : State) : Host.Outcome State Fault Refusal :=
  .next (runDirective tag 50 params false planResumeRule s)

/-- PLAN ABORT (R132). -/
def execPlanAbort (tag : Byte) (params : List Byte) (s : State) : Host.Outcome State Fault Refusal :=
  .next (runDirective tag 51 params false planAbortRule s)

end Sys2Proof.Machine
end

