-- ==== Sys2Proof/Machine/Chain.lean ====
section
/-! DEFINITION. The ports (spec/07): arrivals, ends of transmission, breaks and departures from idle, start symbols, and what
the engine control does when the answer to RESTART or BYPASS has left (spec/11). -/

namespace Sys2Proof.Machine

/-! ## Arrivals (R139 to R142) -/

/-- A well-formed frame with a bad check counts the bad check counter (R140). -/
def noteCheck (f : Frame) (s : State) : State := if goodCheck f then s else countBadCheck s

/-- A node address 1 to 16. -/
def inNodeRange (a : Nat) : Bool := decide (1 ≤ a) && decide (a ≤ 16)

/-- The frame is observed: a SAMPLE frame with a good check and a node address, while ACTIVE (R141, R25). -/
def observed (s : State) (f : Frame) : Bool :=
  s.engine == .active && goodCheck f && frameKind f == kindSample && inNodeRange (frameAddress f)

/-- A frame at the down-port, by the rows of R141. It is queued first and then observed. -/
def arriveDown (f : Frame) (s : State) : State :=
  if Config.maxFrameBytes < f.length then countMalformed s
  else if lengthRule f = false then forwardUp f (countMalformed s)
  else
    let s := forwardUp f (noteCheck f s)
    if observed s f then observe (frameAddress f) (framePayload f) s else s

/-- The frame is a DIRECTIVE to the engine address in force, which a STARTING engine does not have (R142). -/
def forEngine (s : State) (f : Frame) : Bool :=
  s.engine != .starting && frameKind f == kindDirective && frameAddress f == s.engineAddress

/-- A directive frame is offered for taking: it joins the directive queue, or is dropped and counted (R142, R150). -/
def offerDirective (d : DirectiveFrame) (s : State) : State :=
  if s.directiveQueue.length < Config.directiveQueueSize then { s with directiveQueue := s.directiveQueue ++ [d] }
  else countDirectiveOverflow s

/-- A frame at the up-port, by the rows of R142. -/
def arriveUp (f : Frame) (s : State) : State :=
  if Config.maxFrameBytes < f.length then countMalformed s
  else if lengthRule f = false then forwardDown f (countMalformed s)
  else if forEngine s f then
    if goodCheck f then offerDirective { tag := frameTag f, payload := framePayload f } s else countBadCheck s
  else forwardDown f (noteCheck f s)

/-- DOWN_PORT_ARRIVAL (R141). While RESET_N is low nothing is received (R173; log entry 11). -/
def execDownPortArrival (elapsed : Nat) (bytes : Frame) (s : State) : Host.Outcome State Fault Refusal :=
  .next (if s.resetN then startPorts (arriveDown bytes { advance elapsed s with dnReceiving := false }) else s)

/-- UP_PORT_ARRIVAL (R142). Its start symbol set the pattern count to 0 (R147). -/
def execUpPortArrival (bytes : Frame) (s : State) : Host.Outcome State Fault Refusal :=
  .next (if s.resetN then startPorts (arriveUp bytes { s with upReceiving := false, patternCount := 0 }) else s)

/-! ## Ends of transmission (R143, R144) -/

/-- The engine enters BYPASS: any run ends as an abort, segments are reset, taking resumes (R176, R136, R151). -/
def enterBypass (s : State) : State :=
  { resetAllSegments (abortRun s) with engine := .bypass, takingSuspended := false }

/-- What the engine control does when an answer has left the up-port (R151, R173, R176). -/
def answerLeft (a : Answer) (s : State) : State :=
  if a.outcome = .done ∧ a.code.toNat = codeRestart then triggerRestart .restartDirective s
  else if a.outcome = .done ∧ a.code.toNat = codeBypass then enterBypass s
  else s

/-- What the end of a transmission on UP_TX brings before the arbiter chooses (R144; log entry 9). -/
def transmissionEnded (t : UpTransmission) (s : State) : State :=
  match t with
  | .answer a _ => answerLeft a s
  | .report _ _ => s
  | .forwarded _ => s

/-- END_OF_TRANSMISSION on UP_TX (R144), while one is in progress. -/
def execEndOfTransmission (s : State) : Host.Outcome State Fault Refusal :=
  match s.upTx with
  | some t => .next (startPorts (transmissionEnded t { s with upTx := none }))
  | none => .next s

/-- DOWN_PORT_TRANSMISSION_END on DN_TX (R143, R148), while one is in progress. -/
def execDownPortTransmissionEnd (s : State) : Host.Outcome State Fault Refusal :=
  match s.dnTx with
  | some _ => .next (startPorts { s with dnTx := none })
  | none => .next s

/-! ## Breaks, departures from idle and start symbols (R139, R147, R148) -/

/-- The pattern count after a break, or none when the pattern completes (R147). -/
def judgeBreak (count : Nat) (pol : Polarity) (late : Bool) : Option Nat :=
  match count, pol, late with
  | 0, .space, _ => some 1
  | 0, .mark, _ => some 0
  | 1, .space, _ => some 1
  | 1, .mark, false => some 2
  | 1, .mark, true => some 0
  | 2, .space, false => some 3
  | 2, .space, true => some 1
  | 2, .mark, _ => some 0
  | _, .space, _ => some 1
  | _, .mark, false => none
  | _, .mark, true => some 0

/-- A frame being received at UP_RX is cut off and counted (R139). -/
def cutUp (s : State) : State := if s.upReceiving then countMalformed { s with upReceiving := false } else s

/-- A level received at UP_RX waits to be repeated on DN_TX (R148). -/
def repeatLevel (pol : Polarity) (start stop idle : Nat) (s : State) : State :=
  { s with repeats := s.repeats ++ [{ pol := pol, duration := stop - start, idle := idle }] }

/-- The break is judged; the completed pattern triggers a restart (R147, R173). -/
def judgeAt (pol : Polarity) (start stop : Nat) (s : State) : State :=
  match judgeBreak s.patternCount pol (decide (Config.patternGapMicros < start - s.lastBreakEnd)) with
  | none => triggerRestart .linkReset { s with patternCount := 0 }
  | some n => { s with patternCount := n, lastBreakEnd := if n = 0 then s.lastBreakEnd else stop }

/-- BREAK at UP_RX (R147): held 20 µs or more. It cuts off a frame, is repeated and is judged. -/
def execLineBreak (pol : Polarity) (start stop idle : Nat) (s : State) : Host.Outcome State Fault Refusal :=
  .next (if s.resetN ∧ start + Config.breakMicros ≤ stop then
    startPorts (judgeAt pol start stop (repeatLevel pol start stop idle (cutUp s))) else s)

/-- DEPARTURE_FROM_IDLE at UP_RX (R148): shorter than 20 µs, while no frame is being received. -/
def execDepartureFromIdle (pol : Polarity) (start stop idle : Nat) (s : State) : Host.Outcome State Fault Refusal :=
  .next (if s.resetN ∧ s.upReceiving = false ∧ start ≤ stop ∧ stop < start + Config.breakMicros then
    startPorts (repeatLevel pol start stop idle s) else s)

/-- START_SYMBOL (R147, R148): a frame begins to be received; at UP_RX the pattern count is set to 0. DESIGN CHOICE
(log entry 21): received while a frame is already being received, it cuts nothing off and counts nothing, since R139
names only a break and a restart for that; the receiver goes on receiving. -/
def execStartSymbol (port : Port) (s : State) : Host.Outcome State Fault Refusal :=
  .next (if s.resetN then
    match port with
    | .up => { s with upReceiving := true, patternCount := 0 }
    | .down => { s with dnReceiving := true }
  else s)

/-- BREAK_AT_DN_RX (R139): a frame being received there is discarded and counted. -/
def execBreakAtDnRx (s : State) : Host.Outcome State Fault Refusal :=
  .next (if s.dnReceiving then countMalformed { s with dnReceiving := false } else s)

end Sys2Proof.Machine
end

