-- ==== Sys2Proof/Machine/Store.lean ====
section
/-! DEFINITION. The edit window (spec/04 R87 to R91) and the store unit (spec/10): STORE ENABLE, STORE DISABLE, STORE SAVE,
STORE LOAD, CERTIFY and their completions. -/

namespace Sys2Proof.Machine

/-! ## The edit window (R87, R90, R91) -/

/-- The rule of EDIT OPEN, in the order of R87. -/
def editOpenRule (s : State) : Reply State :=
  if s.window.isSome then refuse .state s
  else if s.run.isSome then refuse .busy s
  else if tableCertified s then refuse .certified s
  else accept { s with window := some { written := false, shadow := s.rows } }

/-- The rule of EDIT CLOSE (R90). -/
def editCloseRule (s : State) : Reply State :=
  match s.window with
  | none => refuse .state s
  | some w => accept (evaluateAll { s with window := none, modified := s.modified || w.written })

/-- The rule of EDIT CANCEL (R91). -/
def editCancelRule (s : State) : Reply State :=
  match s.window with
  | none => refuse .state s
  | some w => accept (evaluateAll { s with window := none, rows := w.shadow })

/-- EDIT OPEN (R87). -/
def execEditOpen (tag : Byte) (params : List Byte) (s : State) : Host.Outcome State Fault Refusal :=
  .next (runDirective tag 21 params false editOpenRule s)

/-- EDIT CLOSE (R90). -/
def execEditClose (tag : Byte) (params : List Byte) (s : State) : Host.Outcome State Fault Refusal :=
  .next (runDirective tag 22 params false editCloseRule s)

/-- EDIT CANCEL (R91). -/
def execEditCancel (tag : Byte) (params : List Byte) (s : State) : Host.Outcome State Fault Refusal :=
  .next (runDirective tag 23 params false editCancelRule s)

/-! ## Images (R166) -/

/-- A number 5 to 8 as a grade image. -/
def gradeImage (n : Nat) : Option GradeImage := if h : 5 ≤ n ∧ n ≤ 8 then some ⟨n - 5, by omega⟩ else none

/-- The valid marks of the ten images, bit n for image n (R166). -/
def validMarks (st : ImageStore) : BitVec 10 :=
  BitVec.ofNat 10 (markBit 0 st.identity.isSome + markBit 1 st.settings.isSome + markBit 2 st.profiles.isSome +
    markBit 3 st.slotMap.isSome + markBit 4 st.bank.isSome + markBit 5 st.grades[0].isSome +
    markBit 6 st.grades[1].isSome + markBit 7 st.grades[2].isSome + markBit 8 st.grades[3].isSome +
    markBit 9 st.install.isSome)

/-- The image a saved content belongs to. -/
def SavedContent.image : SavedContent → Nat
  | .settings _ => 1
  | .profiles _ => 2
  | .slotMap _ => 3
  | .bank _ => 4
  | .grades g _ => g.val + 5
  | .install _ => 9

/-- One slot of an install record, from its slot record (R166). -/
def installedSlot (i : SlotNo) (m : ModuleRecord) : InstalledSlot :=
  { slot := i, tag := m.tag, family := m.family, cells := m.cells, rated := m.rated, state := m.state,
    figures := m.figures }

/-- The install record of a position (R166). -/
def installRecordOf (s : State) (at_ : StringNo × Nat) : InstallRecord :=
  { string := at_.1
    position := at_.2
    slots := (positionSlots s at_.1 at_.2).filterMap fun i => s.slots[i].map (installedSlot i)
    alarms := (s.bank[at_.1].placesOf at_.2).map fun p => s.places[p].alarm }

/-- The positions of the enabled strings that are fixed (R168). -/
def fixedPositions (s : State) : List (StringNo × Nat) :=
  (List.finRange 8).flatMap fun i =>
    if s.bank[i].enabled then
      ((List.range s.bank[i].count).filter fun pos => positionFixed s i pos).map fun pos => (i, pos)
    else []

/-- The content copied for an image from the working state as it stands (R168). -/
def contentFor (s : State) (n : Nat) : Option SavedContent :=
  match n with
  | 1 => some (.settings s.settings)
  | 2 => some (.profiles { profiles := s.profiles, curves := s.curves })
  | 3 => some (.slotMap s.slotMap)
  | 4 => some (.bank s.bank)
  | 9 => some (.install { bank := s.bank, records := (fixedPositions s).map (installRecordOf s) })
  | n => (gradeImage n).map fun g => .grades g s.rows

/-- The store with the valid mark of a content's image cleared (R168). -/
def eraseImage (c : SavedContent) (st : ImageStore) : ImageStore :=
  match c with
  | .settings _ => { st with settings := none }
  | .profiles _ => { st with profiles := none }
  | .slotMap _ => { st with slotMap := none }
  | .bank _ => { st with bank := none }
  | .grades g _ => { st with grades := st.grades.set g none }
  | .install _ => { st with install := none }

/-- The store with a content written and its valid mark set; a grade image's certified mark is written clear (R168,
R169). -/
def writeImage (c : SavedContent) (st : ImageStore) : ImageStore :=
  match c with
  | .settings c => { st with settings := some c }
  | .profiles c => { st with profiles := some c }
  | .slotMap c => { st with slotMap := some c }
  | .bank c => { st with bank := some c }
  | .grades g c => { st with grades := st.grades.set g (some c), certified := st.certified.set g false }
  | .install c => { st with install := some c }

/-- The image is a grade image whose certified mark is set (R168). -/
def imageCertified (st : ImageStore) (n : Nat) : Bool :=
  match gradeImage n with
  | none => false
  | some g => st.certified[g]

/-- The image is a grade image. -/
def isGradeImage (n : Nat) : Bool := (gradeImage n).isSome

/-! ## The latch (R167) -/

/-- A refusal of a save or certify, which clears the latch (R168, R171). -/
def refuseLatched (o : AnswerOutcome) (s : State) : Reply State := refuse o { s with latch := false }

/-- STORE ENABLE (R167). -/
def execStoreEnable (tag : Byte) (params : List Byte) (s : State) : Host.Outcome State Fault Refusal :=
  .next (runDirective tag 64 params false (fun s => accept { s with latch := true }) s)

/-- STORE DISABLE (R167). -/
def execStoreDisable (tag : Byte) (params : List Byte) (s : State) : Host.Outcome State Fault Refusal :=
  .next (runDirective tag 65 params false (fun s => accept { s with latch := false }) s)

/-! ## Saving (R168, R169) -/

/-- A save begins: the content is copied, the store becomes busy and the image invalid (R168). -/
def beginSave (c : SavedContent) (s : State) : State :=
  { s with storeWork := some (.save c), store := eraseImage c s.store }

/-- The rule of STORE SAVE, in the order of R168. -/
def storeSaveRule (params : List Byte) (s : State) : Reply State :=
  let n := byteAt params 0
  if 9 < n then refuseLatched .range s
  else if s.latch = false then refuseLatched .notEnabled s
  else if n = 0 ∨ imageCertified s.store n = true then refuseLatched .locked s
  else if s.storeWork.isSome then refuseLatched .busy s
  else if isGradeImage n ∧ s.window.isSome then refuseLatched .edit s
  else
    match contentFor s n with
    | none => refuseLatched .range s
    | some c => accept (beginSave c s)

/-- STORE SAVE (R168). -/
def execStoreSave (tag : Byte) (params : List Byte) (s : State) : Host.Outcome State Fault Refusal :=
  .next (runDirective tag 66 params false (storeSaveRule params) s)

/-- SAVE_COMPLETION (R169): while a save is in progress. -/
def execSaveCompletion (s : State) : Host.Outcome State Fault Refusal :=
  match s.storeWork with
  | some (.save c) =>
    .next (startPorts (requestReport (.store .save c.image)
      { s with store := writeImage c s.store, storeWork := none, latch := false }))
  | _ => .next s

/-! ## Loading (R170) -/

/-- The slot map of image 3 put into force, with the resets of each entry whose slot changes (R17, R170). -/
def loadSlotMap (map : Vector (Option SlotNo) 128) (s : State) : State :=
  (List.finRange 128).foldl (fun t k =>
    if map[k] = s.slotMap[k] then t else resetNamed map[k] (resetNamed s.slotMap[k] t)) { s with slotMap := map }

/-- The rows of a grade image put into force, and every slot evaluated again (R93). -/
def loadGrades (g : GradeImage) (rows : GradeTable) (s : State) : State :=
  evaluateAll { s with rows := rows, origin := some g, modified := false }

/-- The image is valid. -/
def imageValid (st : ImageStore) (n : Nat) : Bool := (validMarks st).getLsbD n

/-- What a load of a valid image does (R170). -/
def loadImage (n : Nat) (s : State) : State :=
  match n with
  | 1 =>
    match s.store.settings with
    | some c => { s with settings := c }
    | none => s
  | 2 =>
    match s.store.profiles with
    | some c => resetAllSegments { s with profiles := c.profiles, curves := c.curves }
    | none => s
  | 3 =>
    match s.store.slotMap with
    | some c => loadSlotMap c s
    | none => s
  | 4 =>
    match s.store.bank with
    | some c => resetPlan { s with bank := c }
    | none => s
  | n =>
    match gradeImage n with
    | none => s
    | some g =>
      match s.store.grades[g] with
      | some rows => loadGrades g rows s
      | none => s

/-- The rule of STORE LOAD, in the order of R170. -/
def storeLoadRule (params : List Byte) (s : State) : Reply State :=
  let n := byteAt params 0
  if n < 1 ∨ 8 < n then refuse .range s
  else if s.storeWork.isSome then refuse .busy s
  else if imageValid s.store n = false then refuse .invalidImage s
  else if 4 ≤ n ∧ s.run.isSome then refuse .busy s
  else if isGradeImage n ∧ s.window.isSome then refuse .edit s
  else if n = 4 ∧ anyFixed s = true then refuse .fixed s
  else accept (loadImage n s)

/-- STORE LOAD (R170). -/
def execStoreLoad (tag : Byte) (params : List Byte) (s : State) : Host.Outcome State Fault Refusal :=
  .next (runDirective tag 67 params false (storeLoadRule params) s)

/-! ## Certification (R171) -/

/-- The rule of CERTIFY, in the order of R171. -/
def certifyRule (params : List Byte) (s : State) : Reply State :=
  let n := byteAt params 0
  if s.latch = false then refuseLatched .notEnabled s
  else if n = 0 then refuseLatched .locked s
  else
    match gradeImage n with
    | none => refuseLatched .range s
    | some g =>
      if s.storeWork.isSome then refuseLatched .busy s
      else if s.store.grades[g].isNone then refuseLatched .invalidImage s
      else accept { s with storeWork := some (.certify g) }

/-- CERTIFY (R171). -/
def execCertify (tag : Byte) (params : List Byte) (s : State) : Host.Outcome State Fault Refusal :=
  .next (runDirective tag 68 params false (certifyRule params) s)

/-- The store with a grade image's certified mark set (R171). -/
def certifyImage (g : GradeImage) (st : ImageStore) : ImageStore := { st with certified := st.certified.set g true }

/-- CERTIFY_COMPLETION (R171): while a certify is in progress. -/
def execCertifyCompletion (s : State) : Host.Outcome State Fault Refusal :=
  match s.storeWork with
  | some (.certify g) =>
    .next (startPorts (requestReport (.store .certify (g.val + 5))
      { s with store := certifyImage g s.store, storeWork := none, latch := false }))
  | _ => .next s

end Sys2Proof.Machine
end

