-- ==== Sys2Proof/Machine/Control.lean ====
section
/-! DEFINITION. The engine control (spec/11): power-on, the reset line, start-up, and the directives IDENTIFY, STATUS, STATUS
CLEAR, REPORT MASK, RESTART, BYPASS, WAKE and UNKNOWN (spec/08, spec/09). -/

namespace Sys2Proof.Machine

/-! ## Restart triggers (R173) -/

/-- POWER_ON (R173). -/
def execPowerOn (s : State) : Host.Outcome State Fault Refusal := .next (startPorts (triggerRestart .powerOn s))

/-- RESET_LINE: RESET_N returns high after being held low (R173). DESIGN CHOICE (log entry 11): run while RESET_N is
already high, the command stands for the whole pulse, low and back, and restarts the engine all the same. -/
def execResetLine (s : State) : Host.Outcome State Fault Refusal :=
  .next (startPorts (triggerRestart .resetLine { s with resetN := true }))

/-- RESET_LINE_HELD_LOW: the engine is STARTING with its chain interface in the condition of R149, nothing being sent
on either port (R173; log entry 11). -/
def execResetLineHeldLow (s : State) : Host.Outcome State Fault Refusal :=
  .next { enterStarting false s with resetN := false }

/-! ## Start-up, stage 1: clearing (R174) -/

/-- Stage 1 of start-up: everything that is emptied, cleared or set to 0; engine time counts from 0 (R173, R174). Ports
set again by R149 stop what began after the trigger, and spare what the trigger spared (R148; log entry 14). -/
def clearingStage (elapsed : Nat) (s : State) : State :=
  { restartPorts (sparesLevel s.restartCause) s with
    engineTime := elapsed
    directiveQueue := []
    answer := none
    takingSuspended := false
    pointer := { table := 0, index := 0 }
    fieldMask := none
    purgeEnable := false
    window := none
    reports := []
    causeFlags := 0
    counters := Counters.zero
    reportCount := 0
    nodes := Vector.replicate 16 NodeEntry.initial
    latch := false
    storeWork := none
    run := none }

/-! ## Stage 2: image loading (R174, R146) -/

/-- The five address bits, each from its strap or from the stored address (R146). -/
def addressBits (c : Settings) (straps : BitVec 5) : Nat :=
  ((c.storedAddress &&& c.addressSource) ||| (straps &&& ~~~c.addressSource)).toNat

/-- The address lies outside 17 to 30 (R146). -/
def addressOutside (a : Nat) : Bool := decide (a < 17) || decide (30 < a)

/-- The engine address and its mark are formed from the settings and the straps (R146). -/
def formAddress (straps : BitVec 5) (s : State) : State :=
  let a := addressBits s.settings straps
  { s with
    adrPins := straps
    engineAddress := if addressOutside a then Config.defaultAddress else a
    addressDefaulted := addressOutside a }

/-- The working grade table from the boot grade image (R69, R84). -/
def loadBootTable (s : State) : State :=
  match (gradeImage s.settings.bootImage).bind fun g => s.store.grades[g].map fun rows => (g, rows) with
  | some (g, rows) => { s with rows := rows, origin := some g, modified := false }
  | none => { s with rows := Vector.replicate 16 GradeRow.empty, origin := none, modified := false }

/-- Images 1 to 4 loaded or defaulted (R172, R22, R53, R16, R94). -/
def loadImages (s : State) : State :=
  { s with
    settings := s.store.settings.getD Settings.default
    profiles := match s.store.profiles with
      | some c => c.profiles
      | none => Vector.replicate 4 Profile.invalid
    curves := match s.store.profiles with
      | some c => c.curves
      | none => Vector.replicate 32 CurvePoint.unwritten
    slotMap := s.store.slotMap.getD (Vector.replicate 128 none)
    bank := s.store.bank.getD (Vector.replicate 8 BankString.default) }

/-- Stage 2 of start-up (R174). -/
def loadingStage (straps : BitVec 5) (s : State) : State :=
  let s := loadBootTable (loadImages s)
  formAddress straps { s with reportMask := s.settings.defaultMask, foundValid := validMarks s.store }

/-! ## Stage 3: slots and places (R175, R15) -/

/-- The state a restored slot takes: the drift mark clear (R15). -/
def restoredState : ModuleState → ModuleState
  | .installed g _ => .installed g false
  | st => st

/-- The grade a restored slot takes: its installed grade, or 15 when QUARANTINED (R15, R82). -/
def restoredGrade : ModuleState → Nat
  | .installed g _ => g
  | .quarantined _ _ => 15
  | _ => 0

/-- The record of a restored slot (R15). -/
def restoredRecord (v : InstalledSlot) : ModuleRecord :=
  { state := restoredState v.state, tag := v.tag, family := v.family, cells := v.cells, rated := v.rated,
    figures := v.figures, grade := restoredGrade v.state, gradeRow := none, restored := true, completedRuns := 0,
    tracker := Tracker.initial }

/-- One slot of an install record is re-created in its place, fixed, with the alarm of a QUARANTINED slot (R175,
R100). -/
def restoreSlot (s : State) (at_ : PlaceNo × InstalledSlot) : State :=
  let m := restoredRecord at_.2
  updatePlace at_.1 (fun _ => { slot := some at_.2.slot, fixed := true, alarm := m.isQuarantined })
    (setSlot at_.2.slot (some m) s)

/-- One install record is restored (R175). -/
def restoreRecord (s : State) (r : InstallRecord) : State :=
  ((s.bank[r.string].placesOf r.position).zip r.slots).foldl restoreSlot s

/-- The install image is judged and, when it fits the working bank map, restored (R175). -/
def restoreInstall (s : State) : State :=
  match s.store.install with
  | none => { s with installResult := .invalid }
  | some c =>
    if c.bank = s.bank then { c.records.foldl restoreRecord s with installResult := .restored }
    else { s with installResult := .conflict }

/-- Stage 3 of start-up (R174). -/
def slotsStage (s : State) : State :=
  recordsFromFixed (restoreInstall
    { s with slots := Vector.replicate 64 none, places := Vector.replicate 64 Place.empty })

/-! ## Stages 4 and 5 (R174) -/

/-- The START report of stage 5 (R174, R159). -/
def startReport (s : State) : Report := .start s.restartCause s.foundValid s.installResult

/-- Stages 4 and 5 of start-up: the engine is ACTIVE and the START report is requested. -/
def activationStage (s : State) : State :=
  let s := { s with engine := .active }
  requestReport (startReport s) s

/-- START_UP (R174): while STARTING with RESET_N high, all stages in order. -/
def execStartUp (straps : BitVec 5) (elapsed : Nat) (s : State) : Host.Outcome State Fault Refusal :=
  .next (if s.engine = .starting ∧ s.resetN = true then
    startPorts (activationStage (slotsStage (loadingStage straps (clearingStage elapsed s)))) else s)

/-! ## IDENTIFY and STATUS (R157, R164) -/

/-- IDENTIFY (R157). -/
def execIdentify (tag : Byte) (params : List Byte) (s : State) : Host.Outcome State Fault Refusal :=
  .next (runDirective tag 1 params true
    (fun s => { outcome := .done, data := identifyBytes s, state := s }) s)

/-- STATUS, with the purge-enable mark as it stood before it (R164, R158). -/
def execStatus (tag : Byte) (params : List Byte) (s : State) : Host.Outcome State Fault Refusal :=
  .next (runDirective tag 2 params true
    (fun t => { outcome := .done, data := statusBytes s.purgeEnable t, state := t }) s)

/-! ## STATUS CLEAR and REPORT MASK (R165, R163) -/

/-- A counter after STATUS CLEAR: 0 when its bit is named. -/
def clearedCounter (named : Byte) (bit v : Nat) : Nat := if named.getLsbD bit then 0 else v

/-- The counters after STATUS CLEAR, in counter-bit order (R165; spec/12). -/
def clearCounters (named : Byte) (c : Counters) : Counters :=
  { badCheck := clearedCounter named 0 c.badCheck
    malformed := clearedCounter named 1 c.malformed
    upOverflow := clearedCounter named 2 c.upOverflow
    downOverflow := clearedCounter named 3 c.downOverflow
    directiveOverflow := clearedCounter named 4 c.directiveOverflow
    reportOverflow := clearedCounter named 5 c.reportOverflow }

/-- The rule of STATUS CLEAR (R165). -/
def statusClearRule (params : List Byte) (s : State) : Reply State :=
  accept { s with
    causeFlags := s.causeFlags &&& ~~~((setAt params 0).truncate 10)
    counters := clearCounters (params.getD 2 0) s.counters }

/-- STATUS CLEAR (R165). -/
def execStatusClear (tag : Byte) (params : List Byte) (s : State) : Host.Outcome State Fault Refusal :=
  .next (runDirective tag 3 params false (statusClearRule params) s)

/-- The kinds a new mask enables whose cause flags are set (R163). -/
def newlyEnabledFlagged (old new : BitVec 8) (flags : BitVec 10) : BitVec 8 := new &&& ~~~old &&& flags.truncate 8

/-- The rule of REPORT MASK with the catch-up (R163). -/
def reportMaskRule (params : List Byte) (s : State) : Reply State :=
  let mask := (setAt params 0).truncate 8
  let caught := newlyEnabledFlagged s.reportMask mask s.causeFlags
  let s := { s with reportMask := mask }
  accept (if caught = 0 then s else requestReport (.attention caught) s)

/-- REPORT MASK (R163). -/
def execReportMask (tag : Byte) (params : List Byte) (s : State) : Host.Outcome State Fault Refusal :=
  .next (runDirective tag 4 params false (reportMaskRule params) s)

/-! ## RESTART, BYPASS, WAKE (R151, R176) -/

/-- The rule of RESTART: DONE, and taking is suspended until the engine control has acted (R151). -/
def restartRule (s : State) : Reply State := accept { s with takingSuspended := true }

/-- The rule of BYPASS (R176, R151). -/
def bypassRule (s : State) : Reply State :=
  if s.storeWork.isSome then refuse .busy s else accept { s with takingSuspended := true }

/-- The rule of WAKE: ACTIVE again, every last arrival absent, silent marks kept (R176, R21). -/
def wakeRule (s : State) : Reply State :=
  if s.engine = .bypass then
    accept { s with
      engine := .active
      nodes := Vector.ofFn fun k => { s.nodes[k] with lastArrival := none } }
  else refuse .state s

/-- RESTART (R151). -/
def execRestart (tag : Byte) (params : List Byte) (s : State) : Host.Outcome State Fault Refusal :=
  .next (runDirective tag codeRestart params false restartRule s)

/-- BYPASS (R176). -/
def execBypass (tag : Byte) (params : List Byte) (s : State) : Host.Outcome State Fault Refusal :=
  .next (runDirective tag codeBypass params false bypassRule s)

/-- WAKE (R176). -/
def execWake (tag : Byte) (params : List Byte) (s : State) : Host.Outcome State Fault Refusal :=
  .next (runDirective tag 7 params true wakeRule s)

/-! ## UNKNOWN (R152, checks 1 and 2) -/

/-- The answer to a directive whose payload names no directive: MALFORMED with code 0 when it is empty, UNKNOWN with
the code received otherwise (R152). -/
def answerUnknown (tag : Byte) (payload : List Byte) (s : State) : State :=
  match payload with
  | [] => placeAnswer tag 0 (refuse .malformed s)
  | code :: _ => placeAnswer tag code (refuse .unknown s)

/-- The payload is empty or its code names no directive. -/
def namesNoDirective : List Byte → Bool
  | [] => true
  | code :: _ => (parameterLength code.toNat).isNone

/-- UNKNOWN (R152): a taken directive that names none. -/
def execUnknown (tag : Byte) (payload : List Byte) (s : State) : Host.Outcome State Fault Refusal :=
  .next (if namesNoDirective payload then
    match takeDirective { tag := tag, payload := payload } s with
    | none => s
    | some t => startPorts (answerUnknown tag payload (consumeMarks t))
  else s)

end Sys2Proof.Machine
end

