-- ==== Sys2Proof/Machine/Fixing.lean ====
section
/-! DEFINITION. Fixing positions (spec/05 R106 to R109; spec/06 R133, R134): FIX, UNFIX, FIX ALL and UNFIX ALL. -/

namespace Sys2Proof.Machine

/-! ## One position -/

/-- A position is fixed: its places, its slots INSTALLED, its review mark cleared (R106, R5). -/
def fixPosition (i : StringNo) (pos : Nat) (s : State) : State :=
  updateRecord i (clearReview pos) (updateSlots (positionSlots s i pos) installRecord
    (updatePlaces (s.bank[i].placesOf pos) (fun p => { p with fixed := true }) s))

/-- A position is unfixed: its marks cleared, its slots returned, and the eligibility rule applied to it (R107, R6,
R110). -/
def unfixPosition (i : StringNo) (pos : Nat) (s : State) : State :=
  let slots := positionSlots s i pos
  slots.foldl (fun s k => applyEligibility k s) (updateSlots slots releaseRecord
    (updatePlaces (s.bank[i].placesOf pos) (fun p => { p with fixed := false, alarm := false }) s))

/-! ## A held run (R133, R134) -/

/-- The string is the current string of the run (R133). -/
def isCurrent (r : PlanningRun) (i : StringNo) : Bool := r.current.any fun c => c.string == i

/-- The string has been processed by the run (R124, R133). -/
def isProcessed (r : PlanningRun) (i : StringNo) : Bool := r.tentative.any fun e => e.string == i

/-- An accepted FIX or UNFIX of a position of a processed string disturbs the run (R129, R133). -/
def disturbIfProcessed (i : StringNo) (s : State) : State :=
  if s.run.any fun r => isProcessed r i then disturb s else s

/-- The entries of some slots are struck, and a struck entry that was taken disturbs the run (R134). -/
def strikeIn (slots : List SlotNo) (r : PlanningRun) : PlanningRun :=
  { r with
    disturbed := r.disturbed || r.candidates.any fun c => slots.contains c.slot && c.taken
    candidates := r.candidates.map fun c => if slots.contains c.slot then { c with struck := true } else c }

/-- An accepted FIX strikes the entries of the slots it made INSTALLED (R134). -/
def strikeSlots (slots : List SlotNo) (s : State) : State := { s with run := s.run.map (strikeIn slots) }

/-- What an existing run gives at order 3 of R106 and R107: BUSY while RUNNING, ACTIVE for its current string while
HELD (R133). -/
def runRefusal (s : State) (i : StringNo) : Option AnswerOutcome :=
  match s.run with
  | none => none
  | some r =>
    match r.mode with
    | .running => some .busy
    | .held => if isCurrent r i then some .active else none

/-! ## FIX and UNFIX (R106, R107) -/

/-- An accepted FIX with its effects on a held run (R106, R133, R134). -/
def fixWithRun (i : StringNo) (pos : Nat) (s : State) : State :=
  disturbIfProcessed i (strikeSlots (positionSlots s i pos) (fixPosition i pos s))

/-- An accepted UNFIX with its effect on a held run (R107, R133). -/
def unfixWithRun (i : StringNo) (pos : Nat) (s : State) : State := disturbIfProcessed i (unfixPosition i pos s)

/-- Orders 1 to 3 of R106 and R107, then the rest of the directive's rule. -/
def withPosition (params : List Byte) (rest : StringNo → Nat → State → Reply State) (s : State) : Reply State :=
  if h : byteAt params 0 < 8 then
    let i : StringNo := ⟨byteAt params 0, h⟩
    if s.bank[i].count ≤ byteAt params 1 then refuse .range s
    else if s.bank[i].enabled = false then refuse .state s
    else
      match runRefusal s i with
      | some o => refuse o s
      | none => rest i (byteAt params 1) s
  else refuse .range s

/-- The rule of FIX (R106). -/
def fixRule (params : List Byte) (s : State) : Reply State :=
  withPosition params (fun i pos s =>
    if positionFixed s i pos then refuse .state s
    else if positionFilled s i pos = false then refuse .empty s
    else accept (fixWithRun i pos s)) s

/-- The rule of UNFIX (R107). -/
def unfixRule (params : List Byte) (s : State) : Reply State :=
  withPosition params (fun i pos s =>
    if positionFixed s i pos then accept (unfixWithRun i pos s) else refuse .state s) s

/-- FIX (R106). -/
def execFix (tag : Byte) (params : List Byte) (s : State) : Host.Outcome State Fault Refusal :=
  .next (runDirective tag 52 params false (fixRule params) s)

/-- UNFIX (R107). -/
def execUnfix (tag : Byte) (params : List Byte) (s : State) : Host.Outcome State Fault Refusal :=
  .next (runDirective tag 53 params false (unfixRule params) s)

/-! ## FIX ALL and UNFIX ALL (R108, R109) -/

/-- The positions of the enabled strings, string by string and position by position, ascending (R108). -/
def enabledPositions (bank : BankMap) : List (StringNo × Nat) :=
  (List.finRange 8).flatMap fun i =>
    if bank[i].enabled then (List.range bank[i].count).map fun pos => (i, pos) else []

/-- One position of FIX ALL: fixed and counted when it is not fixed and filled (R108). -/
def fixIfFilled (acc : State × Nat) (at_ : StringNo × Nat) : State × Nat :=
  if positionFixed acc.1 at_.1 at_.2 = false ∧ positionFilled acc.1 at_.1 at_.2 = true then
    (fixPosition at_.1 at_.2 acc.1, acc.2 + 1)
  else acc

/-- One position of UNFIX ALL: unfixed and counted when it is fixed (R109). -/
def unfixIfFixed (acc : State × Nat) (at_ : StringNo × Nat) : State × Nat :=
  if positionFixed acc.1 at_.1 at_.2 then (unfixPosition at_.1 at_.2 acc.1, acc.2 + 1) else acc

/-- The rule of FIX ALL (R108). -/
def fixAllRule (s : State) : Reply State :=
  if s.run.isSome then refuse .busy s
  else
    let (t, n) := (enabledPositions s.bank).foldl fixIfFilled (s, 0)
    { outcome := .done, data := toBytes 1 n, state := t }

/-- The rule of UNFIX ALL (R109). -/
def unfixAllRule (s : State) : Reply State :=
  if s.run.isSome then refuse .busy s
  else
    let (t, n) := (enabledPositions s.bank).foldl unfixIfFixed (s, 0)
    { outcome := .done, data := toBytes 1 n, state := t }

/-- FIX ALL (R108). -/
def execFixAll (tag : Byte) (params : List Byte) (s : State) : Host.Outcome State Fault Refusal :=
  .next (runDirective tag 54 params false fixAllRule s)

/-- UNFIX ALL (R109). -/
def execUnfixAll (tag : Byte) (params : List Byte) (s : State) : Host.Outcome State Fault Refusal :=
  .next (runDirective tag 55 params false unfixAllRule s)

end Sys2Proof.Machine
end

