-- ==== Sys2Proof/Machine/Dispatch.lean ====
section
/-! DEFINITION. The effect of each command on everything but the queue of waiting commands: one arm per row of
spec/opcode_table.json. -/

namespace Sys2Proof.Machine

def exec (i : Instr) (s : State) : Host.Outcome State Fault Refusal :=
  match i with
  | .powerOn => Sys2Proof.Machine.execPowerOn s
  | .resetLine => Sys2Proof.Machine.execResetLine s
  | .startUp straps elapsed => Sys2Proof.Machine.execStartUp straps elapsed s
  | .lineBreak pol start stop idle => Sys2Proof.Machine.execLineBreak pol start stop idle s
  | .downPortArrival elapsed bytes => Sys2Proof.Machine.execDownPortArrival elapsed bytes s
  | .upPortArrival bytes => Sys2Proof.Machine.execUpPortArrival bytes s
  | .endOfTransmission => Sys2Proof.Machine.execEndOfTransmission s
  | .downPortTransmissionEnd => Sys2Proof.Machine.execDownPortTransmissionEnd s
  | .nodeSilence node elapsed => Sys2Proof.Machine.execNodeSilence node elapsed s
  | .identify tag params => Sys2Proof.Machine.execIdentify tag params s
  | .status tag params => Sys2Proof.Machine.execStatus tag params s
  | .statusClear tag params => Sys2Proof.Machine.execStatusClear tag params s
  | .reportMask tag params => Sys2Proof.Machine.execReportMask tag params s
  | .restart tag params => Sys2Proof.Machine.execRestart tag params s
  | .bypass tag params => Sys2Proof.Machine.execBypass tag params s
  | .wake tag params => Sys2Proof.Machine.execWake tag params s
  | .purgeEnable tag params => Sys2Proof.Machine.execPurgeEnable tag params s
  | .purge tag params => Sys2Proof.Machine.execPurge tag params s
  | .seek tag params => Sys2Proof.Machine.execSeek tag params s
  | .read tag params => Sys2Proof.Machine.execRead tag params s
  | .next tag params => Sys2Proof.Machine.execNext tag params s
  | .fieldMask tag params => Sys2Proof.Machine.execFieldMask tag params s
  | .write tag params => Sys2Proof.Machine.execWrite tag params s
  | .slotMapWrite tag params => Sys2Proof.Machine.execSlotMapWrite tag params s
  | .profileWrite tag params => Sys2Proof.Machine.execProfileWrite tag params s
  | .curveWrite tag params => Sys2Proof.Machine.execCurveWrite tag params s
  | .gradeRowWrite tag params => Sys2Proof.Machine.execGradeRowWrite tag params s
  | .bankMapWrite tag params => Sys2Proof.Machine.execBankMapWrite tag params s
  | .settingsWrite tag params => Sys2Proof.Machine.execSettingsWrite tag params s
  | .editOpen tag params => Sys2Proof.Machine.execEditOpen tag params s
  | .editClose tag params => Sys2Proof.Machine.execEditClose tag params s
  | .editCancel tag params => Sys2Proof.Machine.execEditCancel tag params s
  | .admitModule tag params => Sys2Proof.Machine.execAdmit tag params s
  | .withdraw tag params => Sys2Proof.Machine.execWithdraw tag params s
  | .clearFigures tag params => Sys2Proof.Machine.execClearFigures tag params s
  | .planRun tag params => Sys2Proof.Machine.execPlanRun tag params s
  | .planHold tag params => Sys2Proof.Machine.execPlanHold tag params s
  | .planResume tag params => Sys2Proof.Machine.execPlanResume tag params s
  | .planAbort tag params => Sys2Proof.Machine.execPlanAbort tag params s
  | .opening => Sys2Proof.Machine.execOpening s
  | .filling => Sys2Proof.Machine.execFilling s
  | .completion => Sys2Proof.Machine.execCompletion s
  | .fix tag params => Sys2Proof.Machine.execFix tag params s
  | .unfix tag params => Sys2Proof.Machine.execUnfix tag params s
  | .fixAll tag params => Sys2Proof.Machine.execFixAll tag params s
  | .unfixAll tag params => Sys2Proof.Machine.execUnfixAll tag params s
  | .storeEnable tag params => Sys2Proof.Machine.execStoreEnable tag params s
  | .storeDisable tag params => Sys2Proof.Machine.execStoreDisable tag params s
  | .storeSave tag params => Sys2Proof.Machine.execStoreSave tag params s
  | .saveCompletion => Sys2Proof.Machine.execSaveCompletion s
  | .storeLoad tag params => Sys2Proof.Machine.execStoreLoad tag params s
  | .certify tag params => Sys2Proof.Machine.execCertify tag params s
  | .certifyCompletion => Sys2Proof.Machine.execCertifyCompletion s
  | .unknown tag payload => Sys2Proof.Machine.execUnknown tag payload s
  | .resetLineHeldLow => Sys2Proof.Machine.execResetLineHeldLow s
  | .startSymbol port => Sys2Proof.Machine.execStartSymbol port s
  | .departureFromIdle pol start stop idle => Sys2Proof.Machine.execDepartureFromIdle pol start stop idle s
  | .breakAtDnRx => Sys2Proof.Machine.execBreakAtDnRx s

end Sys2Proof.Machine
end

