-- ==== Sys2Proof/WellFormed.lean ====
section
/-! DEFINITION. Which commands can be written: the directive frame a directive row carries, and the checks on the
operands of every row. Commands outside them are not events of the engine (log entry 4). -/

namespace Sys2Proof

/-- The 33 directive codes (spec/12, Directive payload). -/
def directiveCodes : List Nat :=
  [1, 2, 3, 4, 5, 6, 7, 8, 9, 16, 17, 18, 19, 20, 21, 22, 23, 32, 33, 34,
   48, 49, 50, 51, 52, 53, 54, 55, 64, 65, 66, 67, 68]

/-- The tag, code and parameters of a row that takes one of the 33 directives (spec/12, Directive payload). -/
def Instr.directive : Instr → Option (Byte × Nat × List Byte)
  | .powerOn => none
  | .resetLine => none
  | .startUp _ _ => none
  | .lineBreak _ _ _ _ => none
  | .downPortArrival _ _ => none
  | .upPortArrival _ => none
  | .endOfTransmission => none
  | .downPortTransmissionEnd => none
  | .nodeSilence _ _ => none
  | .identify tag params => some (tag, 1, params)
  | .status tag params => some (tag, 2, params)
  | .statusClear tag params => some (tag, 3, params)
  | .reportMask tag params => some (tag, 4, params)
  | .restart tag params => some (tag, 5, params)
  | .bypass tag params => some (tag, 6, params)
  | .wake tag params => some (tag, 7, params)
  | .purgeEnable tag params => some (tag, 8, params)
  | .purge tag params => some (tag, 9, params)
  | .seek tag params => some (tag, 16, params)
  | .read tag params => some (tag, 17, params)
  | .next tag params => some (tag, 18, params)
  | .fieldMask tag params => some (tag, 19, params)
  | .write tag params => some (tag, 20, params)
  | .slotMapWrite tag params => some (tag, 20, params)
  | .profileWrite tag params => some (tag, 20, params)
  | .curveWrite tag params => some (tag, 20, params)
  | .gradeRowWrite tag params => some (tag, 20, params)
  | .bankMapWrite tag params => some (tag, 20, params)
  | .settingsWrite tag params => some (tag, 20, params)
  | .editOpen tag params => some (tag, 21, params)
  | .editClose tag params => some (tag, 22, params)
  | .editCancel tag params => some (tag, 23, params)
  | .admitModule tag params => some (tag, 32, params)
  | .withdraw tag params => some (tag, 33, params)
  | .clearFigures tag params => some (tag, 34, params)
  | .planRun tag params => some (tag, 48, params)
  | .planHold tag params => some (tag, 49, params)
  | .planResume tag params => some (tag, 50, params)
  | .planAbort tag params => some (tag, 51, params)
  | .opening => none
  | .filling => none
  | .completion => none
  | .fix tag params => some (tag, 52, params)
  | .unfix tag params => some (tag, 53, params)
  | .fixAll tag params => some (tag, 54, params)
  | .unfixAll tag params => some (tag, 55, params)
  | .storeEnable tag params => some (tag, 64, params)
  | .storeDisable tag params => some (tag, 65, params)
  | .storeSave tag params => some (tag, 66, params)
  | .saveCompletion => none
  | .storeLoad tag params => some (tag, 67, params)
  | .certify tag params => some (tag, 68, params)
  | .certifyCompletion => none
  | .unknown _ _ => none
  | .resetLineHeldLow => none
  | .startSymbol _ => none
  | .departureFromIdle _ _ _ _ => none
  | .breakAtDnRx => none

/-- The tag and payload of the DIRECTIVE frame that a row takes, for every row that takes one (spec/12). -/
def Instr.directiveFrame (i : Instr) : Option (Byte × List Byte) :=
  match i with
  | .unknown tag payload => some (tag, payload)
  | i => i.directive.map fun d => (d.1, BitVec.ofNat 8 d.2.1 :: d.2.2)

/-- The tables a WRITE row may be taken for, or none for a row that is no WRITE (log entry 6). -/
def Instr.writeTables (i : Instr) : Option (List Nat) :=
  match i with
  | .write _ _ => some [5, 6, 7, 8]
  | .slotMapWrite _ _ => some [0]
  | .profileWrite _ _ => some [1]
  | .curveWrite _ _ => some [2]
  | .gradeRowWrite _ _ => some [3]
  | .bankMapWrite _ _ => some [4]
  | .settingsWrite _ _ => some [9]
  | _ => none

/-- The payload holds no code or a code that names no directive (R152). -/
def unknownPayload : List Byte → Bool
  | [] => true
  | code :: _ => !directiveCodes.contains code.toNat

/-- The operands of a row are those of an event: a directive payload fits a frame, UNKNOWN names no directive, a break
lasts 20 µs or more and a departure from idle less (R147), a node is 1 to 16 (R18), start-up takes at most 40 ms
(R173). -/
def Instr.wellFormed (i : Instr) : Bool :=
  match i with
  | .unknown _ payload => decide (payload.length ≤ Config.maxPayload) && unknownPayload payload
  | .lineBreak _ start stop _ => decide (start + Config.breakMicros ≤ stop)
  | .departureFromIdle _ start stop _ => decide (start ≤ stop) && decide (stop < start + Config.breakMicros)
  | .nodeSilence node _ => decide (1 ≤ node) && decide (node ≤ 16)
  | .startUp _ elapsed => decide (elapsed ≤ Config.startUpLimit)
  | i =>
    match i.directive with
    | none => true
    | some (_, _, params) => decide (params.length + 1 ≤ Config.maxPayload)

end Sys2Proof
end

