-- ==== Sys2Proof/Safety.lean ====
section
/-! DEFINITION. The terms claims are made in: taking a directive and answering it, what a restart leaves, the levels on
their way down the chain, the outcomes of grade criteria, the leaving of a place, and the invariants that every step keeps. -/

namespace Sys2Proof.Machine

/-! ## Directives -/

/-- The frame may be taken in `s` and `t` is `s` once it is taken, with the field mask discarded and the purge-enable
mark cleared (R151, R156, R158): from the head of the directive queue, or, when the queue is empty, as a frame that
arrives at the up-port and is taken at once (log entry 5). -/
def Taken (d : DirectiveFrame) (s t : State) : Prop :=
  s.engine ≠ .starting ∧ s.answer = none ∧ s.takingSuspended = false ∧
    ((∃ rest, s.directiveQueue = d :: rest ∧
        t = { s with directiveQueue := rest, fieldMask := none, purgeEnable := false }) ∨
      (s.directiveQueue = [] ∧ d.payload.length ≤ 240 ∧
        t = { s with patternCount := 0, upReceiving := false, fieldMask := none, purgeEnable := false }))

/-- A directive of one of the 33 codes is taken while the engine is ACTIVE. -/
def Heard (tag : Byte) (code : Nat) (params : List Byte) (s t : State) : Prop :=
  Taken { tag := tag, payload := BitVec.ofNat 8 code :: params } s t ∧ s.engine = .active

/-- The state with the answer of a directive in the answer slot, and what the idle ports start then (R151, R144). -/
def answered (tag : Byte) (code : Nat) (outcome : AnswerOutcome) (data : List Byte) (t : State) : State :=
  startPorts { t with answer := some { tag := tag, code := BitVec.ofNat 8 code, outcome := outcome, data := data } }

/-- The state after an accepted WRITE: the pointer moved on by one entry (R155). -/
def written (tag : Byte) (t : State) : State :=
  answered tag 20 .done [] { t with pointer := { t.pointer with index := nextIndex t.pointer.table t.pointer.index } }

/-- A row that is a WRITE meets the pointer on one of its tables (log entry 6). -/
def pointerFits (c : Instr) (s : State) : Prop := ∀ ts, c.writeTables = some ts → s.pointer.table ∈ ts

/-! ## Ports and restarts -/

/-- The levels on their way to DN_TX, first the one being repeated (R148). -/
def lineLevels (s : State) : List LineLevel :=
  (match s.dnTx with
    | some (.level l) => [l]
    | some (.forwarded _) => []
    | none => []) ++ s.repeats

/-- `t` is `s` after a restart trigger (R173, R149): STARTING, with nothing on its way through the ports but `levels`, no
run, no save or certify (log entry 12), and everything else as it was. -/
def Restarted (cause : RestartCause) (levels : List LineLevel) (s t : State) : Prop :=
  t = { s with
    engine := .starting
    restartCause := cause
    upTx := none
    dnTx := t.dnTx
    repeats := t.repeats
    upReceiving := false
    dnReceiving := false
    upQueue := []
    dnQueue := []
    patternCount := 0
    arbiterCount := 0
    run := none
    storeWork := none
    takingSuspended := false } ∧
  lineLevels t = levels ∧ ∀ f, t.dnTx ≠ some (.forwarded f)

/-- The rows of the table of R147 that leave a pattern count: the count before, the break, whether it came more than
1 ms after the last counted break ended, and the count after. -/
def breakRow (count : Nat) (pol : Polarity) (late : Prop) (after : Nat) : Prop :=
  (count = 0 ∧ pol = .space ∧ after = 1) ∨
  (count = 0 ∧ pol = .mark ∧ after = 0) ∨
  (count = 1 ∧ pol = .mark ∧ ¬ late ∧ after = 2) ∨
  (count = 2 ∧ pol = .space ∧ ¬ late ∧ after = 3) ∨
  (count = 1 ∧ pol = .mark ∧ late ∧ after = 0) ∨
  (count = 2 ∧ pol = .space ∧ late ∧ after = 1) ∨
  (count = 3 ∧ pol = .mark ∧ late ∧ after = 0) ∨
  ((count = 1 ∨ count = 3) ∧ pol = .space ∧ after = 1) ∨
  (count = 2 ∧ pol = .mark ∧ after = 0)

/-- A frame keeps the length rule of R139. -/
def wellFormedFrame (f : Frame) : Prop := 6 ≤ f.length ∧ f.length = 4 + byteAt f 3 + 2

/-- The malformed counter counted up by one, saturating (R139). -/
def malformedCounted (c : Counters) : Counters := { c with malformed := min (c.malformed + 1) 65535 }

/-- The bad check counter counted up by one, saturating (R140). -/
def badCheckCounted (c : Counters) : Counters := { c with badCheck := min (c.badCheck + 1) 65535 }

/-! ## Grade rows (R72, R73) -/

/-- A criterion is strict and its figure absent: it defers the evaluation (R72). -/
def criterionDefers (f : Figures) (c : Criterion) : Prop := c.strict = true ∧ figureValue f c.figure = none

/-- A criterion that does not defer is true (R72). -/
def criterionTrue (f : Figures) (c : Criterion) : Prop :=
  match figureValue f c.figure with
  | some v => c.predicate.holds v c.threshold = true
  | none => c.predicate.unknown = true

/-- Some criterion of a row defers the evaluation (R73). -/
def rowDefers (f : Figures) (r : GradeRow) : Prop := ∃ c ∈ r.criteria, criterionDefers f c

/-- Every criterion of a row is true (R73). -/
def rowTrue (f : Figures) (r : GradeRow) : Prop := ∀ c ∈ r.criteria, criterionTrue f c

/-- A row is passed: it is not applicable, or it is not true and does not defer (R73). -/
def rowPassed (f : Figures) (family : Family) (r : GradeRow) : Prop :=
  applicable r family = true → ¬ rowTrue f r ∧ ¬ rowDefers f r

/-! ## Leaving a place (R10) -/

/-- Between `s` and `u` the slots of a position left it: its places are empty, no other place and no other string record
changes, the reference stays, a PLANNED string becomes INCOMPLETE (R10), and of the review marks that of the position
alone is cleared (R112). -/
def PositionLeft (string : StringNo) (pos : Nat) (s u : State) : Prop :=
  (∀ p ∈ s.bank[string].placesOf pos, u.places[p] = { s.places[p] with slot := none }) ∧
  (∀ p, p ∉ s.bank[string].placesOf pos → u.places[p] = s.places[p]) ∧
  (∀ j : StringNo, j ≠ string → u.records[j] = s.records[j]) ∧
  u.records[string].reference = s.records[string].reference ∧
  u.records[string].state =
    (if s.records[string].state = .planned then .incomplete else s.records[string].state) ∧
  ∀ k : Fin 16, u.records[string].review.getLsbD k =
    (s.records[string].review.getLsbD k && decide (k.val ≠ pos))

/-! ## Invariants -/

/-- A counter has not passed 65 535 (R164). -/
def Counters.bounded (c : Counters) : Prop :=
  c.badCheck ≤ 65535 ∧ c.malformed ≤ 65535 ∧ c.upOverflow ≤ 65535 ∧ c.downOverflow ≤ 65535 ∧
    c.directiveOverflow ≤ 65535 ∧ c.reportOverflow ≤ 65535

/-- Every queue and count keeps its bound (R143, R150, R161, R144, R147, R164, R18), no two waiting reports have the
same kind and slot (R161), and the engine address lies in 17 to 30 (R146). -/
structure QueuesBounded (s : State) : Prop where
  up : s.upQueue.length ≤ 8
  down : s.dnQueue.length ≤ 4
  directives : s.directiveQueue.length ≤ 4
  reports : s.reports.length ≤ 16
  keys : s.reports.Pairwise fun a b => ¬ (a.kind = b.kind ∧ a.slot = b.slot)
  arbiter : s.arbiterCount ≤ 2
  pattern : s.patternCount ≤ 3
  counters : s.counters.bounded
  nodes : ∀ k : Fin 16, s.nodes[k].sampleFrames ≤ 65535 ∧ s.nodes[k].malformed ≤ 65535
  address : 17 ≤ s.engineAddress ∧ s.engineAddress ≤ 30

/-- A planning run and an open edit window do not exist together (R116). -/
def RunWindowApart (s : State) : Prop := s.run ≠ none → s.window = none

/-- A slot number is named by at most one entry (R16). -/
def mapInjective (map : Vector (Option SlotNo) 128) : Prop :=
  ∀ (a b : Fin 128) (i : SlotNo), map[a] = some i → map[b] = some i → a = b

/-- The slot map, the one in image 3 and the one being saved each name a slot at most once (R16). -/
structure SlotMapsInjective (s : State) : Prop where
  working : mapInjective s.slotMap
  stored : ∀ c, s.store.slotMap = some c → mapInjective c
  saving : ∀ c, s.storeWork = some (.save (.slotMap c)) → mapInjective c

/-- The rows as they stand outside the edit window: the shadow copy while it is open (R86). -/
def settledRows (s : State) : GradeTable :=
  match s.window with
  | some w => w.shadow
  | none => s.rows

/-- What keeps a certified table equal to its image (R85, R86, R168, R171). -/
structure CertifiedSound (s : State) : Prop where
  unwritten : ∀ w, s.window = some w → w.written = false → s.rows = w.shadow
  kept : ∀ g rows, s.origin = some g → s.modified = false → s.store.grades[g] = some rows → rows = settledRows s
  saving : ∀ g c, s.storeWork = some (.save (.grades g c)) →
    s.store.certified[g] = false ∧ (s.origin = some g → s.modified = false → c = settledRows s)
  certifying : ∀ g, s.storeWork = some (.certify g) → s.store.grades[g] ≠ none
  certified : ∀ g : GradeImage, s.store.certified[g] = true → s.store.grades[g] ≠ none

/-- Figures lie in the ranges of the slot record, and a step list holds at most four results (R50, R65). -/
structure Figures.inRange (f : Figures) : Prop where
  cap : ∀ c, f.cap = some c → c.value ≤ 65535
  soh : ∀ c, f.soh = some c → c.value ≤ 1500
  rdc : ∀ c, f.rdc = some c → c.value ≤ 65535
  sdr : ∀ c, f.sdr = some c → c.value ≤ 65535
  tmax : ∀ t, f.tmax = some t → -400 ≤ t ∧ t ≤ 1250
  steps : f.steps.length ≤ 4 ∧ ∀ r ∈ f.steps, r.value ≤ 65535

/-- The figures of every install record are in range. -/
def InstallImage.inRange (c : InstallImage) : Prop := ∀ r ∈ c.records, ∀ v ∈ r.slots, v.figures.inRange

/-- Every figure the engine holds is in range: those of the slots, of the install image and of an install image being
saved (R50, R67). -/
structure FiguresInRange (s : State) : Prop where
  slots : ∀ (i : SlotNo) m, s.slots[i] = some m → m.figures.inRange ∧ m.completedRuns ≤ 255
  stored : ∀ c, s.store.install = some c → c.inRange
  saving : ∀ c, s.storeWork = some (.save (.install c)) → c.inRange

/-- Enabled strings lie within the bank and own no place together (R96). -/
structure BankSound (b : BankMap) : Prop where
  within : ∀ i : StringNo, b[i].enabled = true → b[i].first + b[i].span ≤ 64
  apart : ∀ i j : StringNo, i ≠ j → b[i].enabled = true → b[j].enabled = true →
    b[i].first + b[i].span ≤ b[j].first ∨ b[j].first + b[j].span ≤ b[i].first

/-- A position of an enabled string owns a place (R95). -/
def ownsPlace (b : BankMap) (string : StringNo) (pos : Nat) (p : PlaceNo) : Prop :=
  b[string].enabled = true ∧ pos < b[string].count ∧ p ∈ b[string].placesOf pos

/-- The state of a slot that a fixed place may hold (R99). -/
def ModuleState.standsFixed : ModuleState → Prop
  | .installed _ _ => True
  | .quarantined _ _ => True
  | _ => False

/-- The install records are whole positions of enabled strings of their own bank map, no position twice, with slots
that are INSTALLED or QUARANTINED, no slot twice (R166, R168, R99). -/
structure InstallSound (c : InstallImage) : Prop where
  positions : c.records.Pairwise fun a b => ¬ (a.string = b.string ∧ a.position = b.position)
  whole : ∀ r ∈ c.records, c.bank[r.string].enabled = true ∧ r.position < c.bank[r.string].count ∧
    r.slots.length = (c.bank[r.string].placesOf r.position).length
  slots : ((c.records.flatMap (·.slots)).map (·.slot)).Nodup
  states : ∀ r ∈ c.records, ∀ v ∈ r.slots, v.state.standsFixed

/-- The bank map and every copy of it are sound, and so is every install image (R96, R168). -/
structure ImagesSound (s : State) : Prop where
  bank : BankSound s.bank
  storedBank : ∀ b, s.store.bank = some b → BankSound b
  savingBank : ∀ b, s.storeWork = some (.save (.bank b)) → BankSound b
  storedInstall : ∀ c, s.store.install = some c → InstallSound c
  savingInstall : ∀ c, s.storeWork = some (.save (.install c)) → InstallSound c

/-- The slots a run has chosen, for processed strings and for the current one (R114). -/
def PlanningRun.chosen (r : PlanningRun) : List SlotNo :=
  (r.tentative.flatMap fun e => chosenSlots e.choices) ++ (r.current.elim [] fun c => chosenSlots c.choices)

/-- Choices for a string fill whole positions with candidates whose grade is in its mask (R121, R122). -/
def choicesFit (b : BankString) (r : PlanningRun) (choices : List Choice) : Prop :=
  ∀ ch ∈ choices, ch.slots.length = (b.placesOf ch.position).length ∧
    ∀ i ∈ ch.slots, ∃ c ∈ r.candidates, c.slot = i ∧ b.gradeMask.getLsbD c.grade = true

/-- What an undisturbed run relies on: its unstruck candidates stand as they were listed (R117, R129), what it chose is
taken, unstruck and chosen once (R121, R134), and its strings have been taken in order with the positions that are not
fixed (R120, R123, R124, R133). -/
structure RunSound (s : State) (r : PlanningRun) : Prop where
  listed : (r.candidates.map (·.slot)).Nodup
  graded : ∀ c ∈ r.candidates, c.struck = false →
    ∃ m, s.slots[c.slot] = some m ∧ m.state = .graded ∧ m.grade = c.grade
  once : r.chosen.Nodup
  taken : ∀ i ∈ r.chosen, ∃ c ∈ r.candidates, c.slot = i ∧ c.taken = true ∧ c.struck = false
  strings : (r.tentative.map (·.string)).Nodup
  entries : ∀ e ∈ r.tentative, s.bank[e.string].enabled = true ∧
    (∃ l, r.lastProcessed = some l ∧ e.string ≤ l) ∧ choicesFit s.bank[e.string] r e.choices ∧
    (e.planned = true → e.choices.map (·.position) = openPositions s e.string) ∧
    (e.planned = false → e.choices = [])
  current : ∀ c, r.current = some c → s.bank[c.string].enabled = true ∧
    (∀ l, r.lastProcessed = some l → l < c.string) ∧ choicesFit s.bank[c.string] r c.choices ∧
    c.choices.map (·.position) ++ c.toFill = openPositions s c.string ∧
    ∀ j : StringNo, j < c.string → s.bank[j].enabled = true → ∃ e ∈ r.tentative, e.string = j
  covered : ∀ l, r.lastProcessed = some l → ∀ j : StringNo, j ≤ l → s.bank[j].enabled = true →
    ∃ e ∈ r.tentative, e.string = j

/-- Places, slots and string records agree. A slot stands in at most one place (R99); a place that is filled or fixed
belongs to a position of an enabled string, whose places are filled and fixed together (R95, R99); a fixed place holds
an INSTALLED or QUARANTINED slot, and an INSTALLED slot stands in a fixed place (R99); a slot in a non-fixed place is
GRADED with a grade in the mask of its string (R110); the alarm is set exactly on a fixed place that holds a
QUARANTINED slot (R100); a PLANNED string is enabled and filled (R104). -/
structure PlacesSound (s : State) : Prop where
  images : ImagesSound s
  once : ∀ (p q : PlaceNo) (i : SlotNo), s.places[p].slot = some i → s.places[q].slot = some i → p = q
  owned : ∀ p : PlaceNo, s.places[p].slot ≠ none ∨ s.places[p].fixed = true →
    ∃ string pos, ownsPlace s.bank string pos p
  together : ∀ string pos (p q : PlaceNo), ownsPlace s.bank string pos p → ownsPlace s.bank string pos q →
    s.places[p].fixed = s.places[q].fixed ∧ s.places[p].slot.isSome = s.places[q].slot.isSome
  fixed : ∀ p : PlaceNo, s.places[p].fixed = true →
    ∃ i m, s.places[p].slot = some i ∧ s.slots[i] = some m ∧ m.state.standsFixed
  free : ∀ string pos (p : PlaceNo) (i : SlotNo), ownsPlace s.bank string pos p → s.places[p].slot = some i →
    s.places[p].fixed = false →
    ∃ m, s.slots[i] = some m ∧ m.state = .graded ∧ s.bank[string].gradeMask.getLsbD m.grade = true
  installed : ∀ (i : SlotNo) m g d, s.slots[i] = some m → m.state = .installed g d →
    ∃ p : PlaceNo, s.places[p].slot = some i ∧ s.places[p].fixed = true
  alarm : ∀ p : PlaceNo, s.places[p].alarm = true ↔ s.places[p].fixed = true ∧
    ∃ i m, s.places[p].slot = some i ∧ s.slots[i] = some m ∧ m.isQuarantined = true
  planned : ∀ i : StringNo, s.records[i].state = .planned → s.bank[i].enabled = true ∧
    ∀ pos (p : PlaceNo), ownsPlace s.bank i pos p → s.places[p].slot ≠ none
  run : ∀ r, s.run = some r → r.disturbed = false → RunSound s r

/-- A step of the machine is safe when it answers a next state: nothing the engine is sent stops it. -/
def Runs (s : State) : Prop := ∃ t, step s = .next t

end Sys2Proof.Machine
end

