-- ==== Sys2Proof/Certificates/Slice0/Obligations.lean ====
section
/-! DEFINITION. The statements about the model. Each docstring names the rules of spec/ it rests on; where a clause is the
model's own choice it names the log entry. -/

open Sys2Proof Sys2Proof.Machine

/-! ## The machine -/

/-- A step runs the command at the front of the queue on the state with the queue's rest (spec/95; log entry 5). -/
def Obligations.StepRunsFrontCommand : Prop :=
  ∀ (c : Instr) (rest : List Instr) (s : State),
    step { s with pending := c :: rest } = exec c { s with pending := rest }

/-- The model's choice (log entries 4, 7, 11): an event that cannot happen in the state it meets leaves the state as it
is, and so does a step with no command waiting. Such events are a start-up outside STARTING, an end of transmission on
an idle port, a run step that is not the next one (R115, R120, R126), a completion of work not in progress, a directive
that cannot be taken, a WRITE row whose table is not the pointer's (log entry 6), an UNKNOWN that names a directive, a
break shorter than 20 µs, a departure from idle of 20 µs or more or inside a frame, and anything received while RESET_N
is low. A NODE_SILENCE for no node lets time pass and does nothing else. -/
def Obligations.OutOfPlaceLeavesState : Prop :=
  ∀ s : State,
    (s.pending = [] → step s = .next s) ∧
    (s.engine ≠ .starting ∨ s.resetN = false → ∀ straps e, exec (.startUp straps e) s = .next s) ∧
    (s.upTx = none → exec .endOfTransmission s = .next s) ∧
    (s.dnTx = none → exec .downPortTransmissionEnd s = .next s) ∧
    ((∀ r, s.run = some r → r.mode = .held) →
      exec .opening s = .next s ∧ exec .filling s = .next s ∧ exec .completion s = .next s) ∧
    (∀ r, s.run = some r → r.mode = .running →
      (∀ c, r.current = some c → exec .opening s = .next s ∧ exec .completion s = .next s) ∧
      (∀ c, r.current = some c → c.toFill = [] → exec .filling s = .next s) ∧
      (r.current = none → exec .filling s = .next s) ∧
      (r.current = none → (∀ j : StringNo, s.bank[j].enabled = true → ∃ l, r.lastProcessed = some l ∧ j ≤ l) →
        exec .opening s = .next s) ∧
      (r.current = none → ∀ j : StringNo, s.bank[j].enabled = true → (∀ l, r.lastProcessed = some l → l < j) →
        exec .completion s = .next s)) ∧
    ((∀ c, s.storeWork ≠ some (.save c)) → exec .saveCompletion s = .next s) ∧
    ((∀ g, s.storeWork ≠ some (.certify g)) → exec .certifyCompletion s = .next s) ∧
    (∀ c tag code params, c.directive = some (tag, code, params) →
      (∀ t, ¬ Taken { tag := tag, payload := BitVec.ofNat 8 code :: params } s t) → exec c s = .next s) ∧
    (∀ c tables, c.writeTables = some tables → s.pointer.table ∉ tables → exec c s = .next s) ∧
    (∀ tag payload, (∀ t, ¬ Taken { tag := tag, payload := payload } s t) →
      exec (.unknown tag payload) s = .next s) ∧
    (∀ (tag code : Byte) rest, directiveCodes.contains code.toNat = true →
      exec (.unknown tag (code :: rest)) s = .next s) ∧
    (∀ pol start stop idle, stop < start + 20 → exec (.lineBreak pol start stop idle) s = .next s) ∧
    (∀ pol start stop idle, start + 20 ≤ stop ∨ stop < start ∨ s.upReceiving = true →
      exec (.departureFromIdle pol start stop idle) s = .next s) ∧
    (∀ node e, node < 1 ∨ 16 < node →
      exec (.nodeSilence node e) s = .next { s with engineTime := s.engineTime + e }) ∧
    (s.resetN = false → ∀ e f pol start stop idle port,
      exec (.downPortArrival e f) s = .next s ∧ exec (.upPortArrival f) s = .next s ∧
      exec (.lineBreak pol start stop idle) s = .next s ∧
      exec (.departureFromIdle pol start stop idle) s = .next s ∧ exec (.startSymbol port) s = .next s)

/-- The state right after the power-on trigger, field by field: STARTING with nothing received, queued or sent (R173,
R149), and with every table, register and mark at the value the manual gives for a start-up without images, which is
the model's choice (log entries 1, 2 and 3): nodes (R18), slot map (R16), profiles (R22), curves (R53), rows (R69), slots
(R1), bank map, places and string records (R94, R98, R105), settings (R172), counters and flags (R164), and a store that
holds image 0 alone (R166). Every invariant of this file holds there. -/
def Obligations.ResetIsStarting : Prop :=
  let s := State.reset
  (s.engine = .starting ∧ s.restartCause = .powerOn ∧ s.resetN = true ∧ s.engineTime = 0 ∧ s.pending = []) ∧
  (s.upReceiving = false ∧ s.dnReceiving = false ∧ s.upQueue = [] ∧ s.dnQueue = [] ∧ s.upTx = none ∧ s.dnTx = none ∧
    s.arbiterCount = 0 ∧ s.patternCount = 0 ∧ s.lastBreakEnd = 0 ∧ s.repeats = [] ∧ s.reportCount = 0) ∧
  (s.directiveQueue = [] ∧ s.answer = none ∧ s.takingSuspended = false ∧
    s.pointer = { table := 0, index := 0 } ∧ s.fieldMask = none ∧ s.purgeEnable = false ∧ s.reports = [] ∧
    s.causeFlags = 0 ∧ s.reportMask = 255 ∧ s.counters = Counters.zero ∧ s.latch = false ∧ s.storeWork = none) ∧
  (s.foundValid = 0 ∧ s.installResult = .invalid ∧ s.adrPins = 0 ∧ s.engineAddress = 30 ∧ s.addressDefaulted = true ∧
    s.settings = Settings.default ∧ s.window = none ∧ s.origin = none ∧ s.modified = false ∧ s.run = none) ∧
  ((∀ k : Fin 16, s.nodes[k] = NodeEntry.initial) ∧ (∀ k : Fin 128, s.slotMap[k] = none) ∧
    (∀ k : Fin 4, s.profiles[k] = Profile.invalid) ∧ (∀ k : Fin 32, s.curves[k] = CurvePoint.unwritten) ∧
    (∀ k : Fin 16, s.rows[k] = GradeRow.empty) ∧ (∀ i : SlotNo, s.slots[i] = none) ∧
    (∀ i : StringNo, s.bank[i] = BankString.default) ∧ (∀ p : PlaceNo, s.places[p] = Place.empty) ∧
    ∀ i : StringNo, s.records[i] = StringRecord.initial) ∧
  (s.store.identity = some Config.uniqueNumber ∧ s.store.settings = none ∧ s.store.profiles = none ∧
    s.store.slotMap = none ∧ s.store.bank = none ∧ s.store.install = none ∧
    ∀ g : GradeImage, s.store.grades[g] = none ∧ s.store.certified[g] = false) ∧
  QueuesBounded s ∧ RunWindowApart s ∧ SlotMapsInjective s ∧ CertifiedSound s ∧ FiguresInRange s ∧ PlacesSound s

/-! ## The ports (spec/07) -/

/-- An idle up-port serves the answer, then a report when the queue of forwarded frames is empty or two have passed,
then a forwarded frame (R144), each built as it begins (R145), with the outcome codes of spec/12. An idle down-port
sends the first level to repeat, ahead of every waiting frame, and otherwise the head of its queue (R143, R148); the end
of a transmission there lets it start the next. -/
def Obligations.IdlePortsServe : Prop :=
    (∀ s : State, s.resetN = true →
      (∀ x, s.upTx = some x → startPorts s = startDownPort s) ∧
      (s.upTx = none →
        (∀ a, s.engine ≠ .starting → s.answer = some a →
          startPorts s = { startDownPort s with
            answer := none
            arbiterCount := 0
            upTx := some (.answer a
              (buildFrame 3 s.engineAddress a.tag (a.code :: toBytes 1 a.outcome.code ++ a.data))) }) ∧
        (∀ r rest, s.answer = none → s.engine = .active → s.reports = r :: rest →
          (s.upQueue = [] ∨ s.arbiterCount = 2) →
          startPorts s = { startDownPort s with
            reports := rest
            arbiterCount := 0
            reportCount := s.reportCount + 1
            upTx := some (.report r
              (buildFrame 4 s.engineAddress (BitVec.ofNat 8 s.reportCount) (reportPayload r))) }) ∧
        (∀ f rest, (s.answer = none ∨ s.engine = .starting) → s.upQueue = f :: rest →
          (s.engine ≠ .active ∨ s.reports = [] ∨ s.arbiterCount ≠ 2) →
          startPorts s = { startDownPort s with
            upQueue := rest
            arbiterCount := min (s.arbiterCount + 1) 2
            upTx := some (.forwarded f) }) ∧
        ((s.answer = none ∨ s.engine = .starting) → s.upQueue = [] → (s.engine ≠ .active ∨ s.reports = []) →
          startPorts s = startDownPort s))) ∧
    ([AnswerOutcome.done, .busy, .state, .range, .malformed, .unknown, .bypass, .fixed, .active, .empty, .duplicate,
      .order, .misaligned, .overlap, .edit, .certified, .locked, .notEnabled, .invalidImage, .conflict, .profile,
      .readOnly].map (·.code) = [0, 1, 2, 3, 4, 5, 6, 7, 8, 9, 10, 11, 12, 13, 14, 15, 16, 17, 18, 19, 20, 21]) ∧
    (∀ s : State,
      (∀ x, s.dnTx = some x →
        startDownPort s = s ∧ exec .downPortTransmissionEnd s = .next (startPorts { s with dnTx := none })) ∧
      (s.dnTx = none →
        (∀ l rest, s.repeats = l :: rest →
          startDownPort s = { s with repeats := rest, dnTx := some (.level l) }) ∧
        (∀ f rest, s.repeats = [] → s.dnQueue = f :: rest →
          startDownPort s = { s with dnQueue := rest, dnTx := some (.forwarded f) }) ∧
        (s.repeats = [] → s.dnQueue = [] → startDownPort s = s)))

/-- The end of a transmission on UP_TX frees the port and starts what the arbiter chooses (R144), unless an accepted
RESTART or BYPASS was answered (R151). When the DONE answer to BYPASS has left, the engine is in BYPASS: a run ends
with a PLAN report ABORTED, every slot's segments are reset, and everything else stays (R176, R136). That the engine
control acts before the arbiter chooses is the model's choice (log entry 9). -/
def Obligations.EndOfTransmissionActs : Prop :=
    (∀ (s : State) (x : UpTransmission), s.upTx = some x →
      (∀ a b, x = .answer a b → a.outcome = .done → a.code ≠ 5 ∧ a.code ≠ 6) →
      exec .endOfTransmission s = .next (startPorts { s with upTx := none })) ∧
    (∀ (s : State) (a : Answer) (b : Frame), s.upTx = some (.answer a b) → a.outcome = .done → a.code = 6 →
      ∃ u, exec .endOfTransmission s = .next (startPorts u) ∧
        (∀ i : SlotNo, u.slots[i] = s.slots[i].map resetTracker) ∧
        (s.run = none →
          u = { s with engine := .bypass, takingSuspended := false, upTx := none, slots := u.slots }) ∧
        (s.run ≠ none →
          u = { requestReport (.plan .aborted false (s.records.toList.map (·.state)))
                  { s with run := none, upTx := none } with
                engine := .bypass, takingSuspended := false, slots := u.slots }))

/-- POWER_ON, RESET_LINE and the end of the DONE answer to RESTART (R151, R144) trigger a restart, and the held reset
line keeps one (R173): each puts the engine into STARTING and stops what is being sent on either port, a repeated
level included (R149). The model's choices in it: the waiting levels stay (log entry 14), the run, the save or
certify and the suspension of taking end with the trigger and when RESET_N falls (log entry 12), and RESET_LINE
restarts whatever the pin was, while the cause stays as long as the line is held (log entry 11). -/
def Obligations.RestartTriggersStart : Prop :=
  ∀ s : State,
    (∃ t, exec .powerOn s = .next t ∧ Restarted .powerOn s.repeats s t) ∧
    (∃ t, exec .resetLine s = .next t ∧ Restarted .resetLine s.repeats { s with resetN := true } t) ∧
    (∃ t, exec .resetLineHeldLow s = .next t ∧ Restarted s.restartCause s.repeats { s with resetN := false } t ∧
      t.dnTx = none) ∧
    (∀ a b, s.upTx = some (.answer a b) → a.outcome = .done → a.code = 5 →
      ∃ t, exec .endOfTransmission s = .next t ∧ Restarted .restartDirective s.repeats s t)

/-- A break at UP_RX is judged by the table of R147, cuts off a frame being received (R139) and is repeated (R148); the
fourth break of the pattern triggers a restart (R173), which does not cut the pattern short (R148). The model's
choices in it: times are whole microseconds, and a break judged with the count left at 0 leaves the time of the last
counted break (log entry 15); the run and the save or certify end with the trigger (log entry 12); the level being
repeated is spared and the waiting ones stay (log entry 14). -/
def Obligations.BreakJudged : Prop :=
  ∀ (s : State) (pol : Polarity) (start stop idle : Nat), s.resetN = true → start + 20 ≤ stop →
    let late := s.lastBreakEnd + 1000 < start
    let cut : State := { s with
      upReceiving := false
      counters := if s.upReceiving then malformedCounted s.counters else s.counters
      repeats := s.repeats ++ [{ pol := pol, duration := stop - start, idle := idle }] }
    (∀ n, breakRow s.patternCount pol late n →
      exec (.lineBreak pol start stop idle) s = .next (startPorts { cut with
        patternCount := n
        lastBreakEnd := if n = 0 then s.lastBreakEnd else stop })) ∧
    (s.patternCount = 3 → pol = .mark → ¬ late →
      ∃ t, exec (.lineBreak pol start stop idle) s = .next t ∧ Restarted .linkReset (lineLevels cut) cut t)

/-- Breaks and shorter departures from idle go down the chain in the order received, whatever the ports start (R148); a
start symbol sets the pattern count to 0 (R147), and a break at DN_RX cuts off and counts a frame (R139). That a start
symbol received while a frame is already being received cuts nothing off and counts nothing is the model's choice (log
entry 21). -/
def Obligations.LevelsRepeatedAndFramesCut : Prop :=
  ∀ s : State,
    lineLevels (startPorts s) = lineLevels s ∧
    (∀ pol start stop idle t, s.resetN = true → start + 20 ≤ stop →
      exec (.lineBreak pol start stop idle) s = .next t →
      lineLevels t = lineLevels s ++ [{ pol := pol, duration := stop - start, idle := idle }]) ∧
    (∀ pol start stop idle, s.resetN = true → s.upReceiving = false → start ≤ stop → stop < start + 20 →
      exec (.departureFromIdle pol start stop idle) s = .next (startPorts
        { s with repeats := s.repeats ++ [{ pol := pol, duration := stop - start, idle := idle }] })) ∧
    (s.resetN = true → exec (.startSymbol .up) s = .next { s with upReceiving := true, patternCount := 0 }) ∧
    (s.resetN = true → exec (.startSymbol .down) s = .next { s with dnReceiving := true }) ∧
    (s.dnReceiving = true →
      exec .breakAtDnRx s = .next { s with dnReceiving := false, counters := malformedCounted s.counters }) ∧
    (s.dnReceiving = false → exec .breakAtDnRx s = .next s)

/-- A frame at the down-port by the rows of R141, with the counting of R139 and R140 and the queue of R143. The model's
choices in it: time passes by the operand (log entry 7), the arrival ends the receiving of a frame whether or not a
start symbol came before (log entry 17), and what the whole arrival makes available is started on the idle ports at its
end, so that a report of the observation may leave before the frame queued first (log entry 8). -/
def Obligations.DownPortArrivalRows : Prop :=
  ∀ (s : State) (e : Nat) (f : Frame), s.resetN = true →
    let a : State := { s with engineTime := s.engineTime + e, dnReceiving := false }
    (∀ u : State, u.upQueue.length < 8 → forwardUp f u = { u with upQueue := u.upQueue ++ [f] }) ∧
    (∀ u : State, 8 ≤ u.upQueue.length → forwardUp f u =
      { u with counters := { u.counters with upOverflow := min (u.counters.upOverflow + 1) 65535 } }) ∧
    (246 < f.length →
      exec (.downPortArrival e f) s = .next (startPorts { a with counters := malformedCounted a.counters })) ∧
    (f.length ≤ 246 → ¬ wellFormedFrame f →
      exec (.downPortArrival e f) s =
        .next (startPorts (forwardUp f { a with counters := malformedCounted a.counters }))) ∧
    (f.length ≤ 246 → wellFormedFrame f → goodCheck f = false →
      exec (.downPortArrival e f) s =
        .next (startPorts (forwardUp f { a with counters := badCheckCounted a.counters }))) ∧
    (f.length ≤ 246 → wellFormedFrame f → goodCheck f = true →
      ¬ (s.engine = .active ∧ byteAt f 0 = 1 ∧ 1 ≤ byteAt f 1 ∧ byteAt f 1 ≤ 16) →
      exec (.downPortArrival e f) s = .next (startPorts (forwardUp f a))) ∧
    (f.length ≤ 246 → wellFormedFrame f → goodCheck f = true →
      s.engine = .active → byteAt f 0 = 1 → 1 ≤ byteAt f 1 → byteAt f 1 ≤ 16 →
      exec (.downPortArrival e f) s =
        .next (startPorts (observe (byteAt f 1) ((f.drop 4).take (f.length - 6)) (forwardUp f a))))

/-- A frame at the up-port by the rows of R142, with the counting of R139 and R140, the queues of R143 and R150 and the
pattern count its start symbol set (R147). That the arrival sets the count and ends the receiving whether or not a start
symbol came before is the model's reading (DEDUCED, log entry 17). -/
def Obligations.UpPortArrivalRows : Prop :=
  ∀ (s : State) (f : Frame), s.resetN = true →
    let a : State := { s with upReceiving := false, patternCount := 0 }
    let mine := s.engine ≠ .starting ∧ byteAt f 0 = 2 ∧ byteAt f 1 = s.engineAddress
    (∀ u : State, u.dnQueue.length < 4 → forwardDown f u = { u with dnQueue := u.dnQueue ++ [f] }) ∧
    (∀ u : State, 4 ≤ u.dnQueue.length → forwardDown f u =
      { u with counters := { u.counters with downOverflow := min (u.counters.downOverflow + 1) 65535 } }) ∧
    (246 < f.length →
      exec (.upPortArrival f) s = .next (startPorts { a with counters := malformedCounted a.counters })) ∧
    (f.length ≤ 246 → ¬ wellFormedFrame f →
      exec (.upPortArrival f) s =
        .next (startPorts (forwardDown f { a with counters := malformedCounted a.counters }))) ∧
    (f.length ≤ 246 → wellFormedFrame f → goodCheck f = true → mine → s.directiveQueue.length < 4 →
      exec (.upPortArrival f) s = .next (startPorts { a with
        directiveQueue := s.directiveQueue ++
          [{ tag := f.getD 2 0, payload := (f.drop 4).take (f.length - 6) }] })) ∧
    (f.length ≤ 246 → wellFormedFrame f → goodCheck f = true → mine → 4 ≤ s.directiveQueue.length →
      exec (.upPortArrival f) s = .next (startPorts { a with
        counters := { a.counters with directiveOverflow := min (a.counters.directiveOverflow + 1) 65535 } })) ∧
    (f.length ≤ 246 → wellFormedFrame f → goodCheck f = false → mine →
      exec (.upPortArrival f) s = .next (startPorts { a with counters := badCheckCounted a.counters })) ∧
    (f.length ≤ 246 → wellFormedFrame f → ¬ mine →
      exec (.upPortArrival f) s = .next (startPorts (forwardDown f
        (if goodCheck f = true then a else { a with counters := badCheckCounted a.counters }))))

/-- A frame built by R145 and R179 is well-formed with a good check (R139, R140), and its fields read back as they were
put in. -/
def Obligations.BuiltFramesAreGood : Prop :=
  ∀ (kind address : Nat) (tag : Byte) (payload : List Byte),
    kind < 256 → address < 256 → payload.length ≤ 240 →
    let f := buildFrame kind address tag payload
    f.length = payload.length + 6 ∧ wellFormedFrame f ∧ lengthRule f = true ∧ goodCheck f = true ∧
      frameKind f = kind ∧ frameAddress f = address ∧ frameTag f = tag ∧ framePayload f = payload

/-! ## Start-up (spec/11) -/

/-- START_UP leaves the engine ACTIVE with every queue, mark, counter and register of stage 1 as R174 gives, the START
report on its way with tag 0 (R145, R159), and the images untouched (R166). The model's choices in it: all stages are
one step (log entry 10), engine time is then the operand (log entry 7), the START report has left the queue for the
idle up-port by the end of the step (log entry 8), and the waiting levels stay, with the level being repeated where
the last trigger was the link reset pattern (log entry 14). -/
def Obligations.StartUpClears : Prop :=
  ∀ (s : State) (straps : BitVec 5) (e : Nat), s.engine = .starting → s.resetN = true →
    ∃ t, exec (.startUp straps e) s = .next t ∧
      t.engine = .active ∧ t.restartCause = s.restartCause ∧ t.engineTime = e ∧ t.pending = s.pending ∧
      t.upQueue = [] ∧ t.dnQueue = [] ∧ t.patternCount = 0 ∧ t.arbiterCount = 0 ∧
      t.upReceiving = false ∧ t.dnReceiving = false ∧
      lineLevels t = (if s.restartCause = .linkReset then lineLevels s else s.repeats) ∧
      t.directiveQueue = [] ∧ t.answer = none ∧ t.takingSuspended = false ∧
      t.pointer = { table := 0, index := 0 } ∧ t.fieldMask = none ∧ t.purgeEnable = false ∧ t.window = none ∧
      t.causeFlags = 256 ∧ t.counters = Counters.zero ∧ t.reports = [] ∧ t.reportCount = 1 ∧
      t.upTx = some (.report (.start s.restartCause (validMarks s.store) t.installResult)
        (buildFrame 4 t.engineAddress 0
          (reportPayload (.start s.restartCause (validMarks s.store) t.installResult)))) ∧
      (∀ k : Fin 16, t.nodes[k] = NodeEntry.initial) ∧
      t.latch = false ∧ t.storeWork = none ∧ t.run = none ∧ t.foundValid = validMarks s.store ∧ t.store = s.store

/-- START_UP loads images 1 to 4 and the boot grade image, or sets the defaults (R172, R22, R53, R16, R94, R69, R84),
puts the report mask in force (R160) and forms the engine address (R146). -/
def Obligations.StartUpLoads : Prop :=
  ∀ (s : State) (straps : BitVec 5) (e : Nat), s.engine = .starting → s.resetN = true →
    ∃ t, exec (.startUp straps e) s = .next t ∧
      t.settings = s.store.settings.getD Settings.default ∧
      (∀ c, s.store.profiles = some c → t.profiles = c.profiles ∧ t.curves = c.curves) ∧
      (s.store.profiles = none →
        t.profiles = Vector.replicate 4 Profile.invalid ∧ t.curves = Vector.replicate 32 CurvePoint.unwritten) ∧
      t.slotMap = s.store.slotMap.getD (Vector.replicate 128 none) ∧
      t.bank = s.store.bank.getD (Vector.replicate 8 BankString.default) ∧
      t.reportMask = t.settings.defaultMask ∧ t.modified = false ∧
      (∀ g : GradeImage, t.settings.bootImage = g.val + 5 →
        (∀ rows, s.store.grades[g] = some rows → t.rows = rows ∧ t.origin = some g) ∧
        (s.store.grades[g] = none → t.rows = Vector.replicate 16 GradeRow.empty ∧ t.origin = none)) ∧
      (∀ a : BitVec 5,
        (∀ k : Fin 5, a.getLsbD k = if t.settings.addressSource.getLsbD k then t.settings.storedAddress.getLsbD k
          else straps.getLsbD k) →
        (17 ≤ a.toNat ∧ a.toNat ≤ 30 → t.engineAddress = a.toNat ∧ t.addressDefaulted = false) ∧
        (a.toNat < 17 ∨ 30 < a.toNat → t.engineAddress = 30 ∧ t.addressDefaulted = true))

/-- START_UP restores no slot from an invalid or conflicting install image (R175). From one that fits the bank map it
re-creates each slot of each record, where no other record names that slot or place: with the contents R15 gives, in its
fixed place, with the alarm of a QUARANTINED slot. Every slot it leaves occupied is one of the image's, and the string
records follow R105. -/
def Obligations.StartUpRestores : Prop :=
  ∀ (s : State) (straps : BitVec 5) (e : Nat), s.engine = .starting → s.resetN = true →
    ∃ t, exec (.startUp straps e) s = .next t ∧
      (s.store.install = none → t.installResult = .invalid) ∧
      (∀ c, s.store.install = some c → c.bank ≠ t.bank → t.installResult = .conflict) ∧
      (∀ c, s.store.install = some c → c.bank = t.bank → t.installResult = .restored) ∧
      ((s.store.install = none ∨ ∃ c, s.store.install = some c ∧ c.bank ≠ t.bank) →
        (∀ i : SlotNo, t.slots[i] = none) ∧ (∀ p : PlaceNo, t.places[p] = Place.empty)) ∧
      (∀ (i : SlotNo) (m : ModuleRecord), t.slots[i] = some m →
        m.restored = true ∧ m.completedRuns = 0 ∧ m.gradeRow = none ∧ m.tracker = Tracker.initial ∧
        (∀ g d, m.state = .installed g d → m.grade = g ∧ d = false) ∧
        (m.isQuarantined = true → m.grade = 15) ∧
        ∃ c r v, s.store.install = some c ∧ r ∈ c.records ∧ v ∈ r.slots ∧ v.slot = i ∧ m.tag = v.tag ∧
          m.family = v.family ∧ m.cells = v.cells ∧ m.rated = v.rated ∧ m.figures = v.figures) ∧
      (∀ p : PlaceNo, t.places[p] = Place.empty ∨
        ∃ i, t.places[p].slot = some i ∧ t.places[p].fixed = true) ∧
      (let holds := fun (r : InstallRecord) (p : PlaceNo) (v : InstalledSlot) =>
          ∃ k : Nat, (t.bank[r.string].placesOf r.position)[k]? = some p ∧ r.slots[k]? = some v
        ∀ c, s.store.install = some c → c.bank = t.bank → ∀ r ∈ c.records, ∀ p v, holds r p v →
          (∀ r' ∈ c.records, ∀ p' v', holds r' p' v' → p' = p ∨ v'.slot = v.slot → v' = v) →
          t.places[p].slot = some v.slot ∧ t.places[p].fixed = true ∧
          (t.places[p].alarm = true ↔ ∃ reason g, v.state = .quarantined reason g) ∧
          ∃ m, t.slots[v.slot] = some m ∧ m.tag = v.tag ∧ m.family = v.family ∧ m.cells = v.cells ∧
            m.rated = v.rated ∧ m.figures = v.figures ∧ m.restored = true ∧
            (∀ g d, v.state = .installed g d → m.state = .installed g false ∧ m.grade = g) ∧
            (∀ reason g, v.state = .quarantined reason g → m.state = v.state ∧ m.grade = 15)) ∧
      (∀ i : StringNo, whollyFixed t i = true →
        t.records[i] = { state := .planned, reference := fixedReference t i, review := 0 }) ∧
      (∀ i : StringNo, whollyFixed t i = false →
        t.records[i] = { state := .opened, reference := none, review := 0 })

/-! ## The intake unit (spec/01, spec/02) -/

/-- An observed frame is noted in the node register entry of its node and in no other: a malformed payload counts the
two malformed counters and nothing else; any other sets last tick and last arrival, clears the silent mark and counts
the frame (R19, R21, R25), and its channel entries are then worked in order (R48). An entry whose index is 0 to 7, with
its valid mark set and no earlier entry of that index, is used (R26): its sample, clamped to the ranges of R27 with
the clipped mark when a clamp changed a value, is worked for the slot that the slot map names for the node and the
channel (R16, R28). -/
def Obligations.ObservedFrameNoted : Prop :=
    (∀ (node : Nat) (payload : List Byte) (s : State) (n : Fin 16), node = n.val + 1 →
      let bad := payload.length < 3 ∨ byteAt payload 2 < 1 ∨ 8 < byteAt payload 2 ∨
        payload.length ≠ 3 + 10 * byteAt payload 2
      (bad → observe node payload s = { s with
        counters := malformedCounted s.counters
        nodes := s.nodes.set n { s.nodes[n] with malformed := min (s.nodes[n].malformed + 1) 65535 } }) ∧
      (¬ bad →
        let noted : State := { s with nodes := s.nodes.set n { s.nodes[n] with
          lastTick := some (unsignedAt payload 0 2)
          lastArrival := some s.engineTime
          silent := false
          sampleFrames := min (s.nodes[n].sampleFrames + 1) 65535 } }
        (observe node payload s).nodes = noted.nodes ∧
        observe node payload s =
          (List.range (byteAt payload 2)).foldl (fun u k => workEntry node payload k u) noted)) ∧
    (∀ (payload : List Byte) (s : State) (n : Fin 16) (k : Nat) (i : SlotNo) (x : ClampedSample),
      let at_ := 3 + 10 * k
      let channel := byteAt payload at_
      let v : Int := unsignedAt payload (at_ + 2) 3
      let c := signedAt payload (at_ + 5) 3
      let t := signedAt payload (at_ + 8) 2
      let clamps := fun (lo hi raw clamped : Int) => lo ≤ clamped ∧ clamped ≤ hi ∧
        (lo ≤ raw → raw ≤ hi → clamped = raw) ∧ (raw < lo → clamped = lo) ∧ (hi < raw → clamped = hi)
      channel ≤ 7 → byteAt payload (at_ + 1) % 2 = 1 → (∀ j < k, byteAt payload (3 + 10 * j) ≠ channel) →
      s.slotMap[n.val * 8 + channel]? = some (some i) →
      clamps 0 800000 v x.voltage → clamps (-500000) 500000 c x.current → clamps (-400) 1250 t x.temperature →
      x.tick = unsignedAt payload 0 2 →
      (x.clipped = true ↔ (x.voltage : Int) ≠ v ∨ x.current ≠ c ∨ x.temperature ≠ t) →
      workEntry (n.val + 1) payload k s = workSample i x s)

/-- A sample that is not accepted leaves everything as it is: a VACANT or QUARANTINED slot, an engine that is not
ACTIVE, an invalid profile, or a tick equal to the previous sample's (R28, R29); and so does a channel entry that is
not used or whose slot map entry is unassigned (R26, R28). -/
def Obligations.UnacceptedSampleLeaves : Prop :=
  ∀ (i : SlotNo) (x : ClampedSample) (s : State),
    (s.slots[i] = none → workSample i x s = s) ∧
    (∀ m, s.slots[i] = some m →
      (∃ reason g, m.state = .quarantined reason g) ∨ s.engine ≠ .active ∨ s.profiles[m.family].valid = false ∨
        (∃ prev, m.tracker.previous = some prev ∧ (x.tick + 65536 - prev.tick) % 65536 = 0) →
      workSample i x s = s) ∧
    (∀ (node : Nat) (payload : List Byte) (k : Nat),
      (7 < byteAt payload (3 + 10 * k) ∨ byteAt payload (3 + 10 * k + 1) % 2 = 0 ∨
        (∃ j < k, byteAt payload (3 + 10 * j) = byteAt payload (3 + 10 * k)) ∨
        resolve s node (byteAt payload (3 + 10 * k)) = none) →
      workEntry node payload k s = s)

/-- A sample beyond a hard limit quarantines its slot for the first reason of R31, with the record of R8, and requests a
QUARANTINE report of the slot, the reason and the grade held before (R9). In a fixed place it sets the alarm; otherwise
the slot leaves the place, its paired partner with it, the review mark of the position is cleared and a PLANNED string
becomes INCOMPLETE (R9, R10, R112). An unstruck entry disturbs the run (R129), and nothing else changes (R48). -/
def Obligations.HardLimitQuarantines : Prop :=
  ∀ (i : SlotNo) (x : ClampedSample) (s : State) (m : ModuleRecord) (reason : QuarantineReason),
    s.slots[i] = some m → m.isQuarantined = false → s.engine = .active → s.profiles[m.family].valid = true →
    (∀ prev, m.tracker.previous = some prev → (x.tick + 65536 - prev.tick) % 65536 ≠ 0) →
    let p := s.profiles[m.family]
    ((reason = .highVoltage ∧ p.hardHigh * m.cells < x.voltage) ∨
      (reason = .lowVoltage ∧ x.voltage ≤ p.hardHigh * m.cells ∧ x.voltage < p.hardLow * m.cells) ∨
      (reason = .overTemperature ∧ x.voltage ≤ p.hardHigh * m.cells ∧ p.hardLow * m.cells ≤ x.voltage ∧
        p.hardTemperature < x.temperature)) →
    let u := workSample i x s
    let record : ModuleRecord := { m with
      state := .quarantined reason (if inFixedPlace s i = true then m.state.installedGrade else none)
      grade := 15
      gradeRow := none
      tracker := Tracker.initial }
    let quarantined : State :=
      { s with slots := s.slots.set i (some record), places := u.places, records := u.records }
    u = { requestReport (.quarantine i reason m.grade) quarantined with
      run := s.run.map fun r => { r with disturbed := r.disturbed || hasUnstruckEntry s i } } ∧
    (∀ g d, m.state = .installed g d → m.state.installedGrade = some g) ∧
    (m.state = .admitted ∨ m.state = .testing ∨ m.state = .graded → m.state.installedGrade = none) ∧
    (∀ q, placeOf s i = some q → s.places[q].fixed = true →
      u.places = s.places.set q { s.places[q] with alarm := true } ∧ u.records = s.records) ∧
    (∀ q string pos, placeOf s i = some q → s.places[q].fixed = false → ownerOf s.bank q = some (string, pos) →
      PositionLeft string pos s u) ∧
    (∀ q, placeOf s i = some q → s.places[q].fixed = false → u.places[q].slot = none) ∧
    (placeOf s i = none → u.places = s.places ∧ u.records = s.records) ∧
    u.causeFlags.getLsbD 2 = true

/-- A sample accepted within the hard limits: the tracker and what it delivers are those of the segment rules (R30); an
ADMITTED slot becomes TESTING without an evaluation (R3, R78); TMAX is the highest temperature (R45, R65); completed
runs count a complete run (R36); the figures are those the delivery writes (R49). When it writes none, nothing else
happens. When it writes some, they are handed on in order (R66): the restored mark is cleared, one FIGURE report of
the figures written is requested, the slot is evaluated once, unless this sample made it TESTING (R78), the review
test runs when CAP was written, and a run is disturbed when CAP or RDC was written and differs. No other slot's
record changes (R48). The review test sets the mark of a non-fixed position of a PLANNED string whose key is absent
or out of tolerance of a present reference, and nothing else (R111, R102); a run is disturbed when the slot's CAP or
RDC differs from its unstruck entry in value or in presence (R129). -/
def Obligations.AcceptedSampleWorked : Prop :=
    (∀ (i : SlotNo) (x : ClampedSample) (s : State) (m : ModuleRecord),
      s.slots[i] = some m → m.isQuarantined = false → s.engine = .active → s.profiles[m.family].valid = true →
      (∀ prev, m.tracker.previous = some prev → (x.tick + 65536 - prev.tick) % 65536 ≠ 0) →
      let p := s.profiles[m.family]
      x.voltage ≤ p.hardHigh * m.cells → p.hardLow * m.cells ≤ x.voltage → x.temperature ≤ p.hardTemperature →
      let d := (trackSample p m.cells m.figures.tmax m.tracker x).2
      let u := workSample i x s
      let quiet := d.run = none ∧ d.step = none ∧ d.window = none ∧ d.tmax = none
      u = { s with slots := u.slots, places := u.places, records := u.records, reports := u.reports,
                   causeFlags := u.causeFlags, counters := u.counters, run := u.run } ∧
      (∀ j : SlotNo, j ≠ i → u.slots[j] = s.slots[j]) ∧
      ∃ m' : ModuleRecord, u.slots[i] = some m' ∧
        m'.tracker = (trackSample p m.cells m.figures.tmax m.tracker x).1 ∧
        (m.state = .admitted → m'.state = .testing ∧ m'.grade = m.grade) ∧
        (∀ old, m.figures.tmax = some old → m'.figures.tmax = some (max old x.temperature)) ∧
        (m.figures.tmax = none → m'.figures.tmax = some x.temperature) ∧
        m'.completedRuns = (if d.run = none then m.completedRuns else min (m.completedRuns + 1) 255) ∧
        (∀ r, d.run = some r → m'.figures.cap = some (computeCap r) ∧
          m'.figures.soh = some (computeSoh (computeCap r).value m.rated)) ∧
        (d.run = none → m'.figures.cap = m.figures.cap ∧ m'.figures.soh = m.figures.soh) ∧
        (∀ c, d.step = some c →
          m'.figures.steps =
            (m.figures.steps ++ [stepResult (curveOf s.curves m.family) c]).drop (m.figures.steps.length - 3) ∧
          m'.figures.rdc = rdcOf m'.figures.steps) ∧
        (d.step = none → m'.figures.steps = m.figures.steps ∧ m'.figures.rdc = m.figures.rdc) ∧
        (∀ w, d.window = some w → m'.figures.sdr = some (computeSdr w)) ∧
        (d.window = none → m'.figures.sdr = m.figures.sdr) ∧
        (quiet → m'.restored = m.restored ∧ m'.grade = m.grade ∧ u = { s with slots := s.slots.set i (some m') }) ∧
        (¬ quiet → m'.restored = false ∧ u.causeFlags.getLsbD 1 = true ∧
          ∃ set : BitVec 6,
            (∀ k : Fin 6, set.getLsbD k = true ↔
              (k.val ≤ 1 ∧ d.run ≠ none) ∨ ((k.val = 2 ∨ k.val = 5) ∧ d.step ≠ none) ∨
              (k.val = 3 ∧ d.window ≠ none) ∨ (k.val = 4 ∧ d.tmax ≠ none)) ∧
            let reported := requestReport (.figure i set) { s with slots := s.slots.set i (some { m with
              state := if m.state = .admitted then .testing else m.state
              figures := m'.figures
              restored := false
              completedRuns := m'.completedRuns
              tracker := m'.tracker }) }
            let evaluated := if m.state = .admitted then reported else evaluateSlot i reported
            let reviewed := if d.run = none then evaluated else reviewTest i evaluated
            u = if d.run = none ∧ d.step = none then reviewed else disturbForFigures i reviewed) ∧
        (s.window ≠ none → m'.grade = m.grade ∧ u.places = s.places)) ∧
    (∀ (i : SlotNo) (s : State),
      let stands := fun (string : StringNo) (pos : Nat) => ∃ q, placeOf s i = some q ∧ s.places[q].fixed = false ∧
        ownerOf s.bank q = some (string, pos) ∧ s.records[string].state = .planned
      let fails := fun (string : StringNo) (pos : Nat) => ∃ ref, s.records[string].reference = some ref ∧
        ∀ key, positionKey s string pos = some key →
          s.bank[string].capTolerance * ref < ((key : Int) - ref).natAbs * 1000
      (∀ string pos, stands string pos → fails string pos → reviewTest i s = { s with
        records := s.records.set string { s.records[string] with
          review := s.records[string].review ||| BitVec.ofNat 16 (2 ^ pos) } }) ∧
      ((∀ string pos, stands string pos → ¬ fails string pos) → reviewTest i s = s)) ∧
    (∀ (i : SlotNo) (s : State) (r : PlanningRun), s.run = some r →
      let differs := ∃ m c, s.slots[i] = some m ∧ r.entryOf i = some c ∧ c.struck = false ∧
        (m.figures.cap.map (·.value) ≠ some c.cap ∨ m.figures.rdc.map (·.value) ≠ c.rdc)
      (differs → disturbForFigures i s = { s with run := some { r with disturbed := true } }) ∧
      (¬ differs → disturbForFigures i s = s))

/-- NODE_SILENCE: when the timeout of a node has come (R20), its silent mark is set, the segments of the slots its
entries name are reset (R11), and a SILENT report with the set of silent nodes is requested. That time
passes by the operand, and that a NODE_SILENCE whose timeout has not come only lets it pass, is the model's choice
(log entries 7 and 4). -/
def Obligations.NodeFallsSilent : Prop :=
  ∀ (s : State) (n : Fin 16) (e : Nat),
    let a : State := { s with engineTime := s.engineTime + e }
    let named := fun i : SlotNo => ∃ c < 8, s.slotMap[n.val * 8 + c]? = some (some i)
    let due := s.engine = .active ∧ (∃ i, named i) ∧ s.nodes[n].silent = false ∧
      ∃ t, s.nodes[n].lastArrival = some t ∧ t + s.settings.silenceTimeout ≤ s.engineTime + e
    (¬ due → exec (.nodeSilence (n.val + 1) e) s = .next a) ∧
    (due → ∃ (slots : Vector Slot 64) (silent : BitVec 16),
      exec (.nodeSilence (n.val + 1) e) s = .next (startPorts (requestReport (.silent (n.val + 1) silent)
        { a with nodes := s.nodes.set n { s.nodes[n] with silent := true }, slots := slots })) ∧
      (∀ i : SlotNo, named i → slots[i] = s.slots[i].map resetTracker) ∧
      (∀ i : SlotNo, ¬ named i → slots[i] = s.slots[i]) ∧
      (∀ k : Fin 16, silent.getLsbD k = (s.nodes[k].silent || k == n)))

/-- The capacity run of a sample that follows another: opening (R34), progress with the trapezoid over the used interval
and the held accumulator (R35), gaps (R33), closing complete or SHALLOW (R36). -/
def Obligations.CapacityRunCarried : Prop :=
  ∀ (p : Profile) (cells : Nat) (tmax : Option Int) (t : Tracker) (x : ClampedSample) (prev : Sample),
    t.previous = some prev →
    let delta := (x.tick + 65536 - prev.tick) % 65536
    let used := min delta p.maxGap
    let discharge := x.current < -(p.restThreshold : Int)
    let u := trackSample p cells tmax t x
    (t.run = none → discharge → prev.phase ≠ .discharge → p.fullMark * cells ≤ prev.voltage →
      u.1.run = some { accumulator := 0, minVoltage := x.voltage, gaps := 0, clipped := x.clipped } ∧
        u.2.run = none) ∧
    (t.run = none → (¬ discharge ∨ prev.phase = .discharge ∨ prev.voltage < p.fullMark * cells) →
      u.1.run = none ∧ u.2.run = none) ∧
    (∀ r, t.run = some r → p.maxGap < delta → p.gapAllowance < r.gaps + 1 → u.1.run = none ∧ u.2.run = none) ∧
    (∀ r, t.run = some r → (delta ≤ p.maxGap ∨ r.gaps + 1 ≤ p.gapAllowance) →
      ∃ r' : CapacityRun,
        (r.accumulator + (prev.current + x.current) * used ≤ 2 ^ 48 →
          -(2 ^ 48) ≤ r.accumulator + (prev.current + x.current) * used →
          r'.accumulator = r.accumulator + (prev.current + x.current) * used) ∧
        (2 ^ 48 < r.accumulator + (prev.current + x.current) * used → r'.accumulator = 2 ^ 48) ∧
        (r.accumulator + (prev.current + x.current) * used < -(2 ^ 48) → r'.accumulator = -(2 ^ 48)) ∧
        r'.minVoltage = min r.minVoltage x.voltage ∧
        r'.gaps = (if p.maxGap < delta then r.gaps + 1 else r.gaps) ∧
        r'.clipped = (r.clipped || x.clipped) ∧
        (discharge → u.1.run = some r' ∧ u.2.run = none) ∧
        (¬ discharge → u.1.run = none ∧
          (r'.minVoltage ≤ p.emptyMark * cells ∧ r'.accumulator < 0 → u.2.run = some r') ∧
          (¬ (r'.minVoltage ≤ p.emptyMark * cells ∧ r'.accumulator < 0) → u.2.run = none)))

/-- The rest window, the charged mark and the step of a sample that follows another: interruption (R42), settling (R40),
completion (R41), gaps (R33), opening (R39), charged mark (R38), step capture (R43, R44), and the previous sample and
phase kept (R47). A window that goes on, and one abandoned for its gaps, leaves the charged mark; after an abandoned
one a new window opens on the same sample while the mark is set (R33, R39). A sample without a previous one, the first
after admission or a segment reset (R29, R11), opens no run and makes no step; its phase, its place as the previous
sample, the charged mark and the opening of a window follow the same rules (R34, R43, R47, R38, R39). -/
def Obligations.RestWindowAndStepCarried : Prop :=
  (∀ (p : Profile) (cells : Nat) (tmax : Option Int) (t : Tracker) (x : ClampedSample) (prev : Sample),
    t.previous = some prev →
    let delta := (x.tick + 65536 - prev.tick) % 65536
    let used := min delta p.maxGap
    let charge := (p.restThreshold : Int) < x.current
    let discharge := x.current < -(p.restThreshold : Int)
    let rest := ¬ charge ∧ ¬ discharge
    let phase : Phase := if charge then .charge else if discharge then .discharge else .rest
    let u := trackSample p cells tmax t x
    let dV : Int := (prev.voltage : Int) - x.voltage
    let dI : Int := x.current - prev.current
    u.1.phase = phase ∧
    u.1.previous = some { voltage := x.voltage, current := x.current, temperature := x.temperature, tick := x.tick,
                          phase := phase, clipped := x.clipped } ∧
    (discharge → ¬ charge → u.1.charged = false ∧ u.1.window = none ∧ u.2.window = none) ∧
    (charge → u.1.charged = (t.charged || decide (p.fullMark * cells ≤ x.voltage)) ∧ u.1.window = none ∧
      u.2.window = none) ∧
    (rest → t.window = none → u.1.charged = t.charged ∧ u.2.window = none ∧
      (t.charged = false → u.1.window = none) ∧
      (t.charged = true → 0 < p.settleTime →
        u.1.window = some { stage := .settling, elapsed := 0, gaps := 0 }) ∧
      (t.charged = true → p.settleTime = 0 →
        u.1.window = some { stage := .opened x.voltage, elapsed := 0, gaps := 0 })) ∧
    (∀ w, rest → t.window = some w → (delta ≤ p.maxGap ∨ w.gaps + 1 ≤ p.gapAllowance) →
      let gaps := if p.maxGap < delta then w.gaps + 1 else w.gaps
      (w.stage = .settling → u.1.charged = t.charged) ∧
      (∀ v, w.stage = .opened v → w.elapsed + used < p.restWindow * 1000 → u.1.charged = t.charged) ∧
      (w.stage = .settling → w.elapsed + used < p.settleTime * 1000 →
        u.1.window = some { w with elapsed := w.elapsed + used, gaps := gaps } ∧ u.2.window = none) ∧
      (w.stage = .settling → p.settleTime * 1000 ≤ w.elapsed + used →
        u.1.window = some { stage := .opened x.voltage, elapsed := 0, gaps := gaps } ∧ u.2.window = none) ∧
      (∀ v, w.stage = .opened v → w.elapsed + used < p.restWindow * 1000 →
        u.1.window = some { w with elapsed := w.elapsed + used, gaps := gaps } ∧ u.2.window = none) ∧
      (∀ v, w.stage = .opened v → p.restWindow * 1000 ≤ w.elapsed + used →
        u.1.window = none ∧ u.1.charged = false ∧
        u.2.window = some { startVoltage := v, endVoltage := x.voltage, elapsed := w.elapsed + used })) ∧
    (∀ w, rest → t.window = some w → p.maxGap < delta → p.gapAllowance < w.gaps + 1 →
      u.2.window = none ∧ u.1.charged = t.charged ∧
      (t.charged = false → u.1.window = none) ∧
      (t.charged = true → u.1.window = some
        { stage := if p.settleTime = 0 then .opened x.voltage else .settling, elapsed := 0, gaps := 0 })) ∧
    ((¬ rest ∧ prev.phase = .rest ∧ p.stepMinimum ≤ dI.natAbs ∧ delta ≤ p.stepInterval ∧ prev.clipped = false ∧
        x.clipped = false ∧ ((0 < dV ∧ dI < 0) ∨ (dV < 0 ∧ 0 < dI))) →
      u.2.step = some { deltaV := dV, deltaI := dI, temperature := x.temperature }) ∧
    (¬ (¬ rest ∧ prev.phase = .rest ∧ p.stepMinimum ≤ dI.natAbs ∧ delta ≤ p.stepInterval ∧ prev.clipped = false ∧
        x.clipped = false ∧ ((0 < dV ∧ dI < 0) ∨ (dV < 0 ∧ 0 < dI))) →
      u.2.step = none)) ∧
  (∀ (p : Profile) (cells : Nat) (tmax : Option Int) (t : Tracker) (x : ClampedSample),
    t.previous = none → t.run = none → t.window = none →
    let charge := (p.restThreshold : Int) < x.current
    let discharge := x.current < -(p.restThreshold : Int)
    let phase : Phase := if charge then .charge else if discharge then .discharge else .rest
    let u := trackSample p cells tmax t x
    u.1.phase = phase ∧
    u.1.previous = some { voltage := x.voltage, current := x.current, temperature := x.temperature, tick := x.tick,
                          phase := phase, clipped := x.clipped } ∧
    u.1.run = none ∧ u.2.run = none ∧ u.2.step = none ∧ u.2.window = none ∧
    (charge → u.1.charged = (t.charged || decide (p.fullMark * cells ≤ x.voltage)) ∧ u.1.window = none) ∧
    (¬ charge → discharge → u.1.charged = false ∧ u.1.window = none) ∧
    (¬ charge → ¬ discharge → u.1.charged = t.charged ∧
      u.1.window = if t.charged then
        some { stage := if p.settleTime = 0 then .opened x.voltage else .settling, elapsed := 0, gaps := 0 }
        else none) ∧
    (∀ old, tmax = some old → u.2.tmax = if old < x.temperature then some x.temperature else none) ∧
    (tmax = none → u.2.tmax = some x.temperature))

/-! ## The figure unit (spec/03) -/

/-- The factor of a step is 1000 on a curve with an unwritten point (R57). On a valid one, whose points stand at
strictly ascending temperatures (R55), it is the factor of point 0 at or below its temperature and of point 7 at or
above its own, and between two points it is interpolated, which gives the second point's own factor at that point
(R57). The interpolated factor is the quotient of R58 rounded to the nearest integer, half away from zero, and lies
between the factors of its two points. -/
def Obligations.FactorBetweenPoints : Prop :=
    (∀ (a b : CurvePoint) (t : Int), a.temperature < t → t < b.temperature →
      min a.factor b.factor ≤ interpolate a b t ∧ interpolate a b t ≤ max a.factor b.factor ∧
      let d := b.temperature - a.temperature
      let n := ((b.factor : Int) - a.factor) * (t - a.temperature)
      let q := (interpolate a b t : Int) - a.factor
      (0 ≤ n → 2 * d * q ≤ 2 * n + d ∧ 2 * n + d < 2 * d * (q + 1)) ∧
      (n < 0 → 2 * d * (-q) ≤ 2 * (-n) + d ∧ 2 * (-n) + d < 2 * d * (-q + 1))) ∧
    (∀ (curves : Vector CurvePoint 32) (f : Family) (t : Int),
      let point := fun k : Fin 8 => curves[f.val * 8 + k.val]'(by omega)
      let factor := curveFactor (curveOf curves f) t
      ((∃ k, (point k).written = false) → factor = 1000) ∧
      ((∀ k, (point k).written = true) → (∀ j k : Fin 8, j < k → (point j).temperature < (point k).temperature) →
        (t ≤ (point 0).temperature → factor = (point 0).factor) ∧
        ((point 7).temperature ≤ t → factor = (point 7).factor) ∧
        (∀ k, t = (point k).temperature → factor = (point k).factor) ∧
        (∀ j k : Fin 8, k.val = j.val + 1 → (point j).temperature < t → t < (point k).temperature →
          factor = interpolate (point j) (point k) t)))

/-- The figures are the quotients the manual names, floored or rounded half up, and held at their limits with the
saturated mark: CAP (R51), SOH (R52), the measured resistance (R59), the step result (R60), RDC (R62), SDR (R63, R64). -/
def Obligations.FigureQuotients : Prop :=
  (∀ r : CapacityRun, (computeCap r).clipped = r.clipped ∧
    (r.accumulator.natAbs < 65536 * 72000000 → (computeCap r).saturated = false ∧
      (computeCap r).value * 72000000 ≤ r.accumulator.natAbs ∧
      r.accumulator.natAbs < ((computeCap r).value + 1) * 72000000) ∧
    (65536 * 72000000 ≤ r.accumulator.natAbs →
      (computeCap r).saturated = true ∧ (computeCap r).value = 65535)) ∧
  (∀ cap rated : Nat, 0 < rated →
    (cap * 1000 < 1501 * rated → (computeSoh cap rated).saturated = false ∧
      (computeSoh cap rated).value * rated ≤ cap * 1000 ∧
      cap * 1000 < ((computeSoh cap rated).value + 1) * rated) ∧
    (1501 * rated ≤ cap * 1000 → computeSoh cap rated = { value := 1500, saturated := true })) ∧
  (∀ c : StepCapture, c.deltaI ≠ 0 →
    2 * measuredResistance c * c.deltaI.natAbs ≤ 2 * (c.deltaV.natAbs * 100000) + c.deltaI.natAbs ∧
    2 * (c.deltaV.natAbs * 100000) + c.deltaI.natAbs < 2 * (measuredResistance c + 1) * c.deltaI.natAbs) ∧
  (∀ points c, let n := measuredResistance c * curveFactor points c.temperature
    (2 * n + 1000 < 2000 * 65536 → (stepResult points c).saturated = false ∧
      2000 * (stepResult points c).value ≤ 2 * n + 1000 ∧
      2 * n + 1000 < 2000 * ((stepResult points c).value + 1)) ∧
    (2000 * 65536 ≤ 2 * n + 1000 → stepResult points c = { value := 65535, saturated := true })) ∧
  (∀ steps : List MarkedFigure, steps ≠ [] → ∃ r, rdcOf steps = some r ∧
    2 * r.value * steps.length ≤ 2 * (steps.map (·.value)).sum + steps.length ∧
    2 * (steps.map (·.value)).sum + steps.length < 2 * (r.value + 1) * steps.length ∧
    (r.saturated = true ↔ ∃ x ∈ steps, x.saturated = true)) ∧
  (∀ w : WindowResult, w.startVoltage ≤ w.endVoltage → computeSdr w = { value := 0, saturated := false }) ∧
  (∀ w : WindowResult, w.endVoltage < w.startVoltage → 0 < w.elapsed →
    let n := (w.startVoltage - w.endVoltage) * 360000000
    (2 * n + w.elapsed < 2 * 65536 * w.elapsed → (computeSdr w).saturated = false ∧
      2 * (computeSdr w).value * w.elapsed ≤ 2 * n + w.elapsed ∧
      2 * n + w.elapsed < 2 * ((computeSdr w).value + 1) * w.elapsed) ∧
    (2 * 65536 * w.elapsed ≤ 2 * n + w.elapsed → computeSdr w = { value := 65535, saturated := true }))

/-! ## The grading unit (spec/04) -/

/-- The first true row ends the evaluation and gives its code and its number, when no row before it is true or defers
(R73). A strict criterion with its figure absent defers the evaluation at the first such criterion (R74). Past the
end of the table the grade is 15 when an applicable row exists and no figure of an applicable row was absent, and 0
otherwise (R75). A row is applicable when it is enabled and its family mask includes the family (R73). A criterion whose
figure is present is true when the outcome, LESS below the threshold, EQUAL at it and GREATER above it, is in the
predicate, and one whose figure is absent when UNKNOWN is (R71, R72). -/
def Obligations.EvaluationByRows : Prop :=
    (∀ (table : GradeTable) (family : Family) (f : Figures) (i : Fin 16),
      applicable table[i] family = true → rowTrue f table[i] → ¬ rowDefers f table[i] →
      (∀ j : Fin 16, j < i → rowPassed f family table[j]) →
      evaluate table family f = .graded table[i].code (some i)) ∧
    (∀ (table : GradeTable) (family : Family) (f : Figures),
      (∀ (i : Fin 16) (place : Nat) (c : Criterion), applicable table[i] family = true →
        (∀ j : Fin 16, j < i → rowPassed f family table[j]) →
        table[i].criteria[place]? = some c → criterionDefers f c →
        (∀ k c', k < place → table[i].criteria[k]? = some c' → ¬ criterionDefers f c') →
        evaluate table family f = .deferred i place) ∧
      ((∀ j : Fin 16, rowPassed f family table[j]) →
        ((∃ i : Fin 16, applicable table[i] family = true) →
          (∀ i : Fin 16, applicable table[i] family = true →
            ∀ c ∈ table[i].criteria, figureValue f c.figure ≠ none) →
          evaluate table family f = .graded 15 none) ∧
        (((∀ i : Fin 16, applicable table[i] family = false) ∨
            ∃ i : Fin 16, applicable table[i] family = true ∧
              ∃ c ∈ table[i].criteria, figureValue f c.figure = none) →
          evaluate table family f = .graded 0 none))) ∧
    (∀ (r : GradeRow) (family : Family),
      applicable r family = true ↔ r.enabled = true ∧ r.families.getLsbD family.val = true) ∧
    (∀ (f : Figures) (c : Criterion),
      (∀ v, figureValue f c.figure = some v →
        (v < c.threshold → (criterionTrue f c ↔ c.predicate.less = true)) ∧
        (v = c.threshold → (criterionTrue f c ↔ c.predicate.equal = true)) ∧
        (c.threshold < v → (criterionTrue f c ↔ c.predicate.greater = true))) ∧
      (figureValue f c.figure = none → (criterionTrue f c ↔ c.predicate.unknown = true))) ∧
    (∀ f : Figures,
      figureValue f .cap = f.cap.map (fun c => (c.value : Int)) ∧
      figureValue f .soh = f.soh.map (fun c => (c.value : Int)) ∧
      figureValue f .rdc = f.rdc.map (fun c => (c.value : Int)) ∧
      figureValue f .sdr = f.sdr.map (fun c => (c.value : Int)) ∧
      figureValue f .tmax = f.tmax ∧ figureValue f .nstep = some (f.steps.length : Int))

/-- The effects of an evaluation of a TESTING or GRADED slot: held while the window is open (R79), a STRICT report when it
defers (R74), the grade row alone when the grade stays (R76), and on a change the state, the GRADE report, the
leaving of a place it no longer fits and the disturbing of a run (R80, R110, R129). An INSTALLED slot keeps its state
and place, its drift mark is set exactly when its grade differs from its installed grade, and a DRIFT report is
requested when the mark changes (R7, R81); it is deferred like any other, with a STRICT report (R74). The GRADE report
carries the slot, the old and the new grade and the row (R80). A slot that leaves its place takes its paired partner
with it, the review mark of the position is cleared and a PLANNED string becomes INCOMPLETE (R10, R112). -/
def Obligations.EvaluationEffects : Prop :=
    (∀ (i : SlotNo) (s : State),
      (s.window ≠ none → evaluateSlot i s = s) ∧
      (∀ m, s.window = none → s.slots[i] = some m → (m.state = .testing ∨ m.state = .graded) →
        (∀ row place, evaluate s.rows m.family m.figures = .deferred row place →
          evaluateSlot i s = requestReport (.strict i row place) s) ∧
        (∀ row, evaluate s.rows m.family m.figures = .graded m.grade row →
          evaluateSlot i s = { s with slots := s.slots.set i (some { m with gradeRow := row }) }) ∧
        (∀ g row, evaluate s.rows m.family m.figures = .graded g row → g ≠ m.grade →
          let u := evaluateSlot i s
          let told := requestReport (.grade i m.grade g row) s
          u.slots = s.slots.set i (some { m with
            grade := g, gradeRow := row, state := if g = 0 then .testing else .graded }) ∧
          u.reports = told.reports ∧ u.causeFlags = told.causeFlags ∧ u.counters = told.counters ∧
          u = { s with slots := u.slots, places := u.places, records := u.records, reports := u.reports,
                       causeFlags := u.causeFlags, counters := u.counters, run := u.run } ∧
          (∀ q string pos, placeOf s i = some q → ownerOf s.bank q = some (string, pos) →
            s.places[q].fixed = false → (g = 0 ∨ s.bank[string].gradeMask.getLsbD g = false) →
            u.places[q].slot = none ∧ PositionLeft string pos s u) ∧
          (∀ q string pos, placeOf s i = some q → ownerOf s.bank q = some (string, pos) →
            g ≠ 0 → s.bank[string].gradeMask.getLsbD g = true → u.places = s.places ∧ u.records = s.records) ∧
          (placeOf s i = none → u.places = s.places ∧ u.records = s.records) ∧
          (∀ q string pos, placeOf s i = some q → ownerOf s.bank q = some (string, pos) → s.places[q].fixed = true →
            u.places = s.places ∧ u.records = s.records) ∧
          (s.run = none → u.run = none) ∧
          (∀ r, s.run = some r →
            u.run = some { r with disturbed := r.disturbed || hasUnstruckEntry s i })))) ∧
    (∀ (i : SlotNo) (s : State) (m : ModuleRecord) (ig : Nat) (drift : Bool) (row : Fin 16) (place : Nat),
      s.window = none → s.slots[i] = some m → m.state = .installed ig drift →
      evaluate s.rows m.family m.figures = .deferred row place →
      evaluateSlot i s = requestReport (.strict i row place) s) ∧
    (∀ (i : SlotNo) (s : State) (m : ModuleRecord) (ig : Nat) (drift : Bool) (g : Nat) (row : Option (Fin 16)),
      s.window = none → s.slots[i] = some m → m.state = .installed ig drift →
      evaluate s.rows m.family m.figures = .graded g row →
      (g = m.grade → evaluateSlot i s = { s with slots := s.slots.set i (some { m with gradeRow := row }) }) ∧
      (g ≠ m.grade →
        let t : State := { s with slots := s.slots.set i (some { m with
          grade := g, gradeRow := row, state := .installed ig (decide (g ≠ ig)) }) }
        (decide (g ≠ ig) = drift → evaluateSlot i s = t) ∧
        (decide (g ≠ ig) ≠ drift →
          evaluateSlot i s = requestReport (.drift i ig g (decide (g ≠ ig))) t)))

/-! ## The report unit (spec/09) -/

/-- A request sets the flag of its kind first (R160); a masked kind goes no further; otherwise it merges into the waiting
report of its kind and slot, joins the tail, or overflows (R161). -/
def Obligations.ReportPlaced : Prop :=
  ∀ (r : Report) (s : State),
    let flags := if r.kind = .attention then s.causeFlags else s.causeFlags ||| BitVec.ofNat 10 (2 ^ r.kind.code)
    let passes := r.kind = .start ∨ r.kind = .attention ∨ s.reportMask.getLsbD r.kind.code = true
    (¬ passes → requestReport r s = { s with causeFlags := flags }) ∧
    (passes → (∀ w ∈ s.reports, ¬ (w.kind = r.kind ∧ w.slot = r.slot)) →
      (s.reports.length < 16 → requestReport r s = { s with causeFlags := flags, reports := s.reports ++ [r] }) ∧
      (16 ≤ s.reports.length → requestReport r s = { s with
        causeFlags := flags ||| 512
        counters := { s.counters with reportOverflow := min (s.counters.reportOverflow + 1) 65535 } })) ∧
    (passes → ∀ pre w post, s.reports = pre ++ w :: post → w.kind = r.kind → w.slot = r.slot →
      (∀ v ∈ pre ++ post, ¬ (v.kind = r.kind ∧ v.slot = r.slot)) →
      (∀ i a b, w = .figure i a → r = .figure i b →
        requestReport r s = { s with causeFlags := flags, reports := pre ++ .figure i (a ||| b) :: post }) ∧
      (r.kind ≠ .figure → requestReport r s = { s with causeFlags := flags, reports := pre ++ r :: post }))

/-! ## Directives and answers (spec/08, spec/09) -/

/-- The checks on every taken directive (R152). Checks 1 and 2: an empty payload is answered MALFORMED with code 0, and
a code that names none of the 33 directives is answered UNKNOWN with the code received. Check 3: in BYPASS every
directive but IDENTIFY, STATUS and WAKE is answered BYPASS, whatever its parameters, with no other effect than the
taking. -/
def Obligations.ChecksAnswered : Prop :=
    (∀ (tag : Byte) (s t : State),
      (Taken { tag := tag, payload := [] } s t →
        exec (.unknown tag []) s = .next (answered tag 0 .malformed [] t)) ∧
      (∀ code params, directiveCodes.contains code.toNat = false →
        Taken { tag := tag, payload := code :: params } s t →
        exec (.unknown tag (code :: params)) s = .next (answered tag code.toNat .unknown [] t))) ∧
    (∀ (c : Instr) (tag : Byte) (code : Nat) (params : List Byte) (s t : State),
      c.directive = some (tag, code, params) → code ≠ 1 → code ≠ 2 → code ≠ 7 → pointerFits c s →
      s.engine = .bypass → Taken { tag := tag, payload := BitVec.ofNat 8 code :: params } s t →
      exec c s = .next (answered tag code .bypass [] t))

/-- The read-out form of every table entry and the payload of every report, byte by byte by spec/12, most significant
byte first, each number in the width of its field (R179). A VACANT slot reads as its number and zeros; in a record an
absent field reads 0 with its presence bit clear; a number that is none travels as 255. That a report of a slotless
kind carries 255 as its slot, and a GRADE report without a row 255 as its row, is the model's reading (DEDUCED, log
entry 16). -/
def Obligations.ReadOutBytes : Prop :=
  let byte := fun n : Nat => BitVec.ofNat 8 n
  ([Phase.none, .rest, .charge, .discharge].map phaseCode = [0, 1, 2, 3] ∧
    [FigureKind.cap, .soh, .rdc, .sdr, .tmax, .nstep].map (·.code) = [0, 1, 2, 3, 4, 5] ∧
    [ReportKind.grade, .figure, .quarantine, .drift, .strict, .plan, .silent, .store, .start, .attention].map (·.code) =
      [0, 1, 2, 3, 4, 5, 6, 7, 8, 9] ∧
    [StringState.opened, .planned, .short, .incomplete].map (·.code) = [0, 1, 2, 3] ∧
    [QuarantineReason.highVoltage, .lowVoltage, .overTemperature].map (·.code) = [1, 2, 3] ∧
    [RestartCause.powerOn, .resetLine, .restartDirective, .linkReset].map (·.code) = [0, 1, 2, 3] ∧
    [InstallResult.restored, .conflict, .invalid].map (·.code) = [0, 1, 2] ∧
    [PlanOutcome.adopted, .disturbed, .aborted].map (·.code) = [0, 1, 2] ∧
    [StoreOperation.save, .certify].map (·.code) = [0, 1]) ∧
  (∀ (s : State) (k : Fin 128),
    entryBytes s 0 k = [byte (s.slotMap[k].elim 255 (·.val))]) ∧
  (∀ (s : State) (k : Fin 4), let b := entryBytes s 1 k; let p := s.profiles[k]
    b.length = 26 ∧ byteAt b 0 = p.valid.toNat ∧ unsignedAt b 1 2 = p.fullMark % 65536 ∧
    unsignedAt b 3 2 = p.emptyMark % 65536 ∧ unsignedAt b 5 2 = p.hardHigh % 65536 ∧
    unsignedAt b 7 2 = p.hardLow % 65536 ∧ unsignedAt b 9 2 = p.restThreshold % 65536 ∧
    unsignedAt b 11 3 = p.stepMinimum % 2 ^ 24 ∧ unsignedAt b 14 2 = p.stepInterval % 65536 ∧
    unsignedAt b 16 2 = p.settleTime % 65536 ∧ unsignedAt b 18 3 = p.restWindow % 2 ^ 24 ∧
    unsignedAt b 21 2 = p.maxGap % 65536 ∧ byteAt b 23 = p.gapAllowance % 256 ∧
    signedAt b 24 2 = p.hardTemperature.bmod 65536) ∧
  (∀ (s : State) (k : Fin 32), let b := entryBytes s 2 k; let c := s.curves[k]
    b.length = 5 ∧ byteAt b 0 = c.written.toNat ∧ signedAt b 1 2 = c.temperature.bmod 65536 ∧
    unsignedAt b 3 2 = c.factor % 65536) ∧
  (∀ (s : State) (k : Fin 16), let b := entryBytes s 3 k; let r := s.rows[k]
    b.length = 24 ∧ byteAt b 0 = r.enabled.toNat ∧ byteAt b 1 = r.code % 256 ∧ byteAt b 2 = r.families.toNat ∧
    byteAt b 3 = r.criteria.length % 256 ∧
    ∀ j : Fin 4,
      (r.criteria[j.val]? = none → (b.drop (4 + 5 * j.val)).take 5 = [0, 0, 0, 0, 0]) ∧
      (∀ c, r.criteria[j.val]? = some c →
        byteAt b (4 + 5 * j.val) = c.figure.code ∧
        byteAt b (5 + 5 * j.val) = c.predicate.less.toNat + 2 * c.predicate.equal.toNat +
          4 * c.predicate.greater.toNat + 8 * c.predicate.unknown.toNat + 16 * c.strict.toNat ∧
        signedAt b (6 + 5 * j.val) 3 = c.threshold.bmod (2 ^ 24))) ∧
  (∀ (s : State) (k : Fin 8), let b := entryBytes s 4 k; let t := s.bank[k]
    b.length = 11 ∧ byteAt b 0 = t.enabled.toNat ∧ byteAt b 1 = t.family.val ∧
    byteAt b 2 = (if t.kind = .paired then 1 else 0) ∧ byteAt b 3 = t.first % 256 ∧ byteAt b 4 = t.count % 256 ∧
    unsignedAt b 5 2 = t.gradeMask.toNat ∧ unsignedAt b 7 2 = t.capTolerance % 65536 ∧
    unsignedAt b 9 2 = t.pairTolerance % 65536) ∧
  (∀ (s : State) (k : Fin 16), let b := entryBytes s 5 k; let e := s.nodes[k]
    b.length = 12 ∧ byteAt b 0 = k.val + 1 ∧
    byteAt b 1 = e.lastTick.isSome.toNat + 2 * e.lastArrival.isSome.toNat + 4 * e.silent.toNat ∧
    unsignedAt b 2 2 = e.lastTick.getD 0 % 65536 ∧ unsignedAt b 4 4 = e.lastArrival.getD 0 % 2 ^ 32 ∧
    unsignedAt b 8 2 = e.sampleFrames % 65536 ∧ unsignedAt b 10 2 = e.malformed % 65536) ∧
  (∀ (s : State) (i : SlotNo), s.slots[i] = none →
    entryBytes s 6 i = byte i.val :: List.replicate 83 0) ∧
  (∀ (s : State) (i : SlotNo) (m : ModuleRecord), s.slots[i] = some m → m.tag.length = 16 →
    m.figures.steps.length ≤ 4 →
    let b := entryBytes s 6 i
    let f := m.figures
    let t := m.tracker
    let state := match m.state with
      | .admitted => 1
      | .testing => 2
      | .graded => 3
      | .installed _ _ => 4
      | .quarantined _ _ => 5
    let installedGrade : Option Nat := match m.state with
      | .installed g _ => some g
      | .quarantined _ g => g
      | _ => none
    let drift : Option Bool := match m.state with
      | .installed _ d => some d
      | _ => none
    let reason : Option QuarantineReason := match m.state with
      | .quarantined r _ => some r
      | _ => none
    let start : Option Nat := t.window.bind fun w => match w.stage with
      | .settling => none
      | .opened v => some v
    b.length = 84 ∧ byteAt b 0 = i.val ∧ byteAt b 1 = state ∧
    unsignedAt b 2 2 = f.cap.isSome.toNat + 2 * f.soh.isSome.toNat + 4 * f.rdc.isSome.toNat +
      8 * f.sdr.isSome.toNat + 16 * f.tmax.isSome.toNat + 32 * m.gradeRow.isSome.toNat +
      64 * installedGrade.isSome.toNat + 128 * drift.isSome.toNat + 256 * (placeOf s i).isSome.toNat +
      512 * reason.isSome.toNat + 1024 * t.previous.isSome.toNat + 2048 * t.run.isSome.toNat +
      4096 * t.window.isSome.toNat ∧
    (b.drop 4).take 16 = m.tag ∧ byteAt b 20 = m.family.val ∧ byteAt b 21 = m.cells % 256 ∧
    unsignedAt b 22 2 = m.rated % 65536 ∧
    unsignedAt b 24 2 = f.cap.elim 0 (·.value) % 65536 ∧ unsignedAt b 26 2 = f.soh.elim 0 (·.value) % 65536 ∧
    unsignedAt b 28 2 = f.rdc.elim 0 (·.value) % 65536 ∧ unsignedAt b 30 2 = f.sdr.elim 0 (·.value) % 65536 ∧
    signedAt b 32 2 = (f.tmax.getD 0).bmod 65536 ∧ byteAt b 34 = f.steps.length ∧
    byteAt b 35 = (f.cap.any (·.clipped)).toNat + 2 * (f.cap.any (·.saturated)).toNat +
      4 * (f.soh.any (·.saturated)).toNat + 8 * (f.rdc.any (·.saturated)).toNat +
      16 * (f.sdr.any (·.saturated)).toNat ∧
    (∀ j : Fin 4, unsignedAt b (36 + 2 * j.val) 2 = f.steps[j.val]?.elim 0 (·.value) % 65536) ∧
    byteAt b 44 = (f.steps[0]?.any (·.saturated)).toNat + 2 * (f.steps[1]?.any (·.saturated)).toNat +
      4 * (f.steps[2]?.any (·.saturated)).toNat + 8 * (f.steps[3]?.any (·.saturated)).toNat ∧
    byteAt b 45 = m.grade % 256 ∧ byteAt b 46 = m.gradeRow.elim 0 (·.val) ∧
    byteAt b 47 = installedGrade.getD 0 % 256 ∧
    byteAt b 48 = (drift.getD false).toNat + 2 * m.restored.toNat + 4 * t.charged.toNat ∧
    byteAt b 49 = (placeOf s i).elim 0 (·.val) ∧ byteAt b 50 = reason.elim 0 (·.code) ∧
    byteAt b 51 = m.completedRuns % 256 ∧
    unsignedAt b 52 3 = t.previous.elim 0 (·.voltage) % 2 ^ 24 ∧
    signedAt b 55 3 = (t.previous.elim 0 (·.current)).bmod (2 ^ 24) ∧
    signedAt b 58 2 = (t.previous.elim 0 (·.temperature)).bmod 65536 ∧
    unsignedAt b 60 2 = t.previous.elim 0 (·.tick) % 65536 ∧ byteAt b 62 = phaseCode t.phase ∧
    byteAt b 63 = (t.previous.any (·.clipped)).toNat + 2 * (t.run.any (·.clipped)).toNat ∧
    signedAt b 64 7 = (t.run.elim 0 (·.accumulator)).bmod (2 ^ 56) ∧
    unsignedAt b 71 3 = t.run.elim 0 (·.minVoltage) % 2 ^ 24 ∧ byteAt b 74 = t.run.elim 0 (·.gaps) % 256 ∧
    byteAt b 75 = start.isSome.toNat ∧ unsignedAt b 76 4 = t.window.elim 0 (·.elapsed) % 2 ^ 32 ∧
    unsignedAt b 80 3 = start.getD 0 % 2 ^ 24 ∧ byteAt b 83 = t.window.elim 0 (·.gaps) % 256) ∧
  (∀ (s : State) (p : PlaceNo), let owner := ownerOf s.bank p
    entryBytes s 7 p = [byte p.val, byte (s.places[p].slot.elim 255 (·.val)),
      byte (s.places[p].fixed.toNat + 2 * s.places[p].alarm.toNat), byte (owner.elim 255 (·.1.val)),
      byte (owner.elim 255 (·.2))]) ∧
  (∀ (s : State) (i : StringNo), let b := entryBytes s 7 (64 + i.val); let r := s.records[i]
    b.length = 8 ∧ byteAt b 0 = i.val ∧ byteAt b 1 = r.state.code ∧ byteAt b 2 = r.reference.isSome.toNat ∧
    unsignedAt b 3 3 = r.reference.getD 0 % 2 ^ 24 ∧ unsignedAt b 6 2 = r.review.toNat) ∧
  (∀ s : State, let b := entryBytes s 8 0
    b.length = 12 ∧ unsignedAt b 0 2 = 3420 ∧ b[2]? = some Config.siliconRevision ∧
    unsignedAt b 3 8 = s.store.identity.elim 0 (·.toNat) ∧ byteAt b 11 = s.store.identity.isSome.toNat) ∧
  (∀ s : State, let b := entryBytes s 9 0; let c := s.settings
    b.length = 8 ∧ byteAt b 0 = c.bootImage % 256 ∧ byteAt b 1 = c.addressSource.toNat ∧
    byteAt b 2 = c.storedAddress.toNat ∧ unsignedAt b 3 2 = c.silenceTimeout % 65536 ∧
    byteAt b 5 = c.autoRerun % 256 ∧ unsignedAt b 6 2 = c.defaultMask.toNat) ∧
  (∀ i o n row, reportPayload (.grade i o n row) =
    [0, byte i.val, byte o, byte n, byte (row.elim 255 (·.val))]) ∧
  (∀ i set, reportPayload (.figure i set) = [1, byte i.val, byte set.toNat]) ∧
  (∀ i reason g, reportPayload (.quarantine i reason g) = [2, byte i.val, byte reason.code, byte g]) ∧
  (∀ i ig g mark, reportPayload (.drift i ig g mark) = [3, byte i.val, byte ig, byte g, byte mark.toNat]) ∧
  (∀ i row place, reportPayload (.strict i row place) = [4, byte i.val, byte row.val, byte place]) ∧
  (∀ outcome rerun states, reportPayload (.plan outcome rerun states) =
    [5, 255, byte outcome.code, byte rerun.toNat] ++ states.map fun st => byte st.code) ∧
  (∀ node nodes, reportPayload (.silent node nodes) =
    [6, 255, byte node, byte (nodes.toNat / 256), byte (nodes.toNat % 256)]) ∧
  (∀ operation image, reportPayload (.store operation image) = [7, 255, byte operation.code, byte image]) ∧
  (∀ cause valid install, reportPayload (.start cause valid install) =
    [8, 255, byte cause.code, byte (valid.toNat / 256), byte (valid.toNat % 256), byte install.code]) ∧
  (∀ kinds, reportPayload (.attention kinds) = [9, 255, 0, byte kinds.toNat])

/-- A directive whose parameters have another length than it takes is answered MALFORMED (R152, check 4), and a WRITE
likewise by the write form of its table, after the test that answers READ ONLY for tables 5 to 8 (R155); the pointer
and everything else stay. -/
def Obligations.WrongLengthAnswered : Prop :=
  ∀ (c : Instr) (tag : Byte) (code : Nat) (params : List Byte) (s t : State),
    c.directive = some (tag, code, params) → pointerFits c s → Heard tag code params s t →
    (∀ n, parameterLength code = some (some n) → params.length ≠ n →
      exec c s = .next (answered tag code .malformed [] t)) ∧
    (code = 20 → 5 ≤ s.pointer.table → s.pointer.table ≤ 8 →
      exec c s = .next (answered tag 20 .readOnly [] t)) ∧
    (∀ n, code = 20 → writeFormLength s.pointer.table = some n → params.length ≠ n →
      exec c s = .next (answered tag 20 .malformed [] t))

/-- IDENTIFY and STATUS are answered DONE in ACTIVE and in BYPASS (R157, R164), with the identity and the engine address,
and with the 26 bytes of engine status at the places spec/12 gives, the purge-enable mark as it stood before (DEDUCED,
log entry 19). A number that is none travels as 255. -/
def Obligations.IdentifyAndStatus : Prop :=
  ∀ (tag : Byte) (s t : State),
    (Taken { tag := tag, payload := [1] } s t → ∃ unique : Nat,
      (∀ v, s.store.identity = some v → unique = v.toNat) ∧ (s.store.identity = none → unique = 0) ∧
      exec (.identify tag []) s = .next (answered tag 1 .done
        (toBytes 2 3420 ++ [Config.siliconRevision] ++ toBytes 8 unique ++
          [if s.store.identity = none then 0 else 1] ++ toBytes 1 s.engineAddress) t)) ∧
    (Taken { tag := tag, payload := [2] } s t → s.counters.bounded → s.engineAddress ≤ 30 →
      ∃ data : List Byte, exec (.status tag []) s = .next (answered tag 2 .done data t) ∧ data.length = 26 ∧
        byteAt data 0 = (if s.engine = .active then 1 else 2) ∧ byteAt data 1 = (match s.restartCause with
          | .powerOn => 0
          | .resetLine => 1
          | .restartDirective => 2
          | .linkReset => 3) ∧
        unsignedAt data 2 2 = s.foundValid.toNat ∧ byteAt data 4 = (match s.installResult with
          | .restored => 0
          | .conflict => 1
          | .invalid => 2) ∧
        (s.run = none → byteAt data 5 = 0) ∧ (∀ r, s.run = some r → r.mode = .running → byteAt data 5 = 1) ∧
        (∀ r, s.run = some r → r.mode = .held → byteAt data 5 = 2) ∧
        (s.run = none → byteAt data 6 = 255) ∧
        (∀ r cur, s.run = some r → r.current = some cur → byteAt data 6 = cur.string.val) ∧
        (∀ r, s.run = some r → r.current = none → byteAt data 6 = 255) ∧
        (∀ g, s.origin = some g → byteAt data 8 = g.val + 5) ∧ (s.origin = none → byteAt data 8 = 255) ∧
        (byteAt data 7).testBit 0 = s.run.any (·.disturbed) ∧ (byteAt data 7).testBit 1 = s.window.isSome ∧
        (byteAt data 7).testBit 2 = s.modified ∧ (byteAt data 7).testBit 3 = tableCertified s ∧
        (byteAt data 7).testBit 4 = s.storeWork.isSome ∧ (byteAt data 7).testBit 5 = s.latch ∧
        (byteAt data 7).testBit 6 = s.purgeEnable ∧ (byteAt data 7).testBit 7 = s.addressDefaulted ∧
        byteAt data 9 = s.engineAddress ∧ unsignedAt data 10 2 = s.causeFlags.toNat ∧
        unsignedAt data 12 2 = s.reportMask.toNat ∧ unsignedAt data 14 2 = s.counters.badCheck ∧
        unsignedAt data 16 2 = s.counters.malformed ∧ unsignedAt data 18 2 = s.counters.upOverflow ∧
        unsignedAt data 20 2 = s.counters.downOverflow ∧ unsignedAt data 22 2 = s.counters.directiveOverflow ∧
        unsignedAt data 24 2 = s.counters.reportOverflow)

/-- STATUS CLEAR clears the flags and counters it names and no others (R165); REPORT MASK puts its set in force and
requests an ATTENTION report of the newly enabled kinds whose flags are set, when there are any (R163). That an idle
up-port starts the answer before that report is the model's choice (log entry 8). -/
def Obligations.StatusClearAndReportMask : Prop :=
  ∀ (tag : Byte) (params : List Byte) (s t : State),
    (Heard tag 3 params s t → params.length = 3 → ∃ (flags : BitVec 10) (counters : Counters),
      exec (.statusClear tag params) s =
        .next (answered tag 3 .done [] { t with causeFlags := flags, counters := counters }) ∧
      (∀ k : Fin 10, flags.getLsbD k = (s.causeFlags.getLsbD k && !(unsignedAt params 0 2).testBit k)) ∧
      counters.badCheck = (if (byteAt params 2).testBit 0 then 0 else s.counters.badCheck) ∧
      counters.malformed = (if (byteAt params 2).testBit 1 then 0 else s.counters.malformed) ∧
      counters.upOverflow = (if (byteAt params 2).testBit 2 then 0 else s.counters.upOverflow) ∧
      counters.downOverflow = (if (byteAt params 2).testBit 3 then 0 else s.counters.downOverflow) ∧
      counters.directiveOverflow = (if (byteAt params 2).testBit 4 then 0 else s.counters.directiveOverflow) ∧
      counters.reportOverflow = (if (byteAt params 2).testBit 5 then 0 else s.counters.reportOverflow)) ∧
    (Heard tag 4 params s t → params.length = 2 → ∃ (mask caught : BitVec 8),
      (∀ k : Fin 8, mask.getLsbD k = (unsignedAt params 0 2).testBit k) ∧
      (∀ k : Fin 8, caught.getLsbD k =
        (mask.getLsbD k && !s.reportMask.getLsbD k && s.causeFlags.getLsbD k)) ∧
      (caught = 0 → exec (.reportMask tag params) s = .next (answered tag 4 .done [] { t with reportMask := mask })) ∧
      (caught ≠ 0 → exec (.reportMask tag params) s =
        .next (answered tag 4 .done [] (requestReport (.attention caught) { t with reportMask := mask }))))

/-- RESTART and BYPASS are answered DONE and suspend taking until the engine control has acted (R151), BYPASS refused
BUSY while the store is busy (R176). WAKE in BYPASS makes the engine ACTIVE with every last arrival absent, and is
refused STATE otherwise (R176). FIELD MASK (R156), PURGE ENABLE (R158), STORE ENABLE and STORE DISABLE (R167) set one
mark and nothing else. -/
def Obligations.MarkAndModeDirectives : Prop :=
    (∀ (tag : Byte) (s t : State),
      (Heard tag 5 [] s t →
        exec (.restart tag []) s = .next (answered tag 5 .done [] { t with takingSuspended := true })) ∧
      (Heard tag 6 [] s t → s.storeWork = none →
        exec (.bypass tag []) s = .next (answered tag 6 .done [] { t with takingSuspended := true })) ∧
      (Heard tag 6 [] s t → s.storeWork ≠ none →
        exec (.bypass tag []) s = .next (answered tag 6 .busy [] t)) ∧
      (Heard tag 7 [] s t → exec (.wake tag []) s = .next (answered tag 7 .state [] t)) ∧
      (Taken { tag := tag, payload := [7] } s t → s.engine = .bypass → ∃ nodes : Vector NodeEntry 16,
        exec (.wake tag []) s = .next (answered tag 7 .done [] { t with engine := .active, nodes := nodes }) ∧
        ∀ k : Fin 16, nodes[k] = { s.nodes[k] with lastArrival := none })) ∧
    (∀ (tag : Byte) (params : List Byte) (s t : State),
      (Heard tag 19 params s t → params.length = 2 → exec (.fieldMask tag params) s =
        .next (answered tag 19 .done [] { t with fieldMask := some (BitVec.ofNat 16 (unsignedAt params 0 2)) })) ∧
      (Heard tag 8 [] s t →
        exec (.purgeEnable tag []) s = .next (answered tag 8 .done [] { t with purgeEnable := true })) ∧
      (Heard tag 64 [] s t →
        exec (.storeEnable tag []) s = .next (answered tag 64 .done [] { t with latch := true })) ∧
      (Heard tag 65 [] s t →
        exec (.storeDisable tag []) s = .next (answered tag 65 .done [] { t with latch := false })))

/-- PURGE is refused NOT ENABLED without the mark and BUSY while a run exists (R158); otherwise every slot outside a
fixed place becomes VACANT and its waiting reports are removed, every non-fixed place is emptied, and the string
records follow the fixed positions that remain (R177, R162, R105). -/
def Obligations.PurgeEffect : Prop :=
  ∀ (tag : Byte) (s t : State), Heard tag 9 [] s t →
    (s.purgeEnable = false → exec (.purge tag []) s = .next (answered tag 9 .notEnabled [] t)) ∧
    (s.purgeEnable = true → s.run ≠ none → exec (.purge tag []) s = .next (answered tag 9 .busy [] t)) ∧
    (s.purgeEnable = true → s.run = none → ∃ u : State,
      exec (.purge tag []) s = .next (answered tag 9 .done [] u) ∧
      u = { t with slots := u.slots, places := u.places, reports := u.reports, records := u.records } ∧
      (∀ i : SlotNo, u.slots[i] = if inFixedPlace s i = true then s.slots[i] else none) ∧
      (∀ p : PlaceNo, u.places[p] = if s.places[p].fixed = true then s.places[p] else Place.empty) ∧
      (∀ r, r ∈ u.reports ↔
        r ∈ s.reports ∧ ∀ i, r.slot = some i → s.slots[i] = none ∨ inFixedPlace s i = true) ∧
      u.reports.Sublist s.reports ∧
      (∀ i : StringNo, whollyFixed u i = true →
        u.records[i] = { state := .planned, reference := fixedReference u i, review := 0 }) ∧
      (∀ i : StringNo, whollyFixed u i = false →
        u.records[i] = { state := .opened, reference := none, review := 0 }))

/-! ## Table access and the table writes -/

/-- SEEK sets the pointer to a table 0 to 9 and an index below its number of entries, and is refused RANGE otherwise
with the pointer where it was (R153). READ of n from 1 to 8 carries the largest number of whole entries, at most n,
that fit the payload, in order from the pointer with the wrap, and moves the pointer past them; another count is
refused RANGE; NEXT is a READ of 1 (R154). -/
def Obligations.PointerMoves : Prop :=
    (∀ (tag table index : Byte) (s t : State), Heard tag 16 [table, index] s t →
      (table.toNat ≤ 9 → index.toNat < tableEntries table.toNat →
        exec (.seek tag [table, index]) s = .next (answered tag 16 .done []
          { t with pointer := { table := table.toNat, index := index.toNat } })) ∧
      (9 < table.toNat ∨ tableEntries table.toNat ≤ index.toNat →
        exec (.seek tag [table, index]) s = .next (answered tag 16 .range [] t))) ∧
    (∀ (tag n : Byte) (s t : State),
      let at_ := fun j => Nat.repeat (nextIndex s.pointer.table) j s.pointer.index
      let carries := fun (count : Nat) (entries : List (List Byte)) =>
        entries.length ≤ count ∧ entries.flatten.length ≤ 235 ∧
        (∀ j e, entries[j]? = some e → e = entryBytes t s.pointer.table (at_ j)) ∧
        (entries.length < count →
          235 < entries.flatten.length + (entryBytes t s.pointer.table (at_ entries.length)).length)
      let reply := fun (code : Nat) (entries : List (List Byte)) =>
        answered tag code .done
          (toBytes 1 s.pointer.table ++ toBytes 1 s.pointer.index ++ toBytes 1 entries.length ++ entries.flatten)
          { t with pointer := { table := s.pointer.table, index := at_ entries.length } }
      (Heard tag 17 [n] s t → (n.toNat < 1 ∨ 8 < n.toNat) →
        exec (.read tag [n]) s = .next (answered tag 17 .range [] t)) ∧
      (Heard tag 17 [n] s t → 1 ≤ n.toNat → n.toNat ≤ 8 →
        ∃ entries, carries n.toNat entries ∧ exec (.read tag [n]) s = .next (reply 17 entries)) ∧
      (Heard tag 18 [] s t → ∃ entries, carries 1 entries ∧ exec (.next tag []) s = .next (reply 18 entries)))

/-- WRITE to a read-only table is refused READ ONLY (R155). WRITE to the slot map: RANGE, DUPLICATE, a value equal to
the present one, or the entry's new value with the segments of the old and the new slot reset (R17). -/
def Obligations.SlotMapWritten : Prop :=
  ∀ (tag v : Byte) (s t : State) (k : Fin 128), Heard tag 20 [v] s t →
    (5 ≤ s.pointer.table → s.pointer.table ≤ 8 →
      exec (.write tag [v]) s = .next (answered tag 20 .readOnly [] t)) ∧
    (s.pointer = { table := 0, index := k.val } →
      (64 ≤ v.toNat → v.toNat ≠ 255 → exec (.slotMapWrite tag [v]) s = .next (answered tag 20 .range [] t)) ∧
      (∀ i : SlotNo, v.toNat = i.val → (∃ j : Fin 128, j ≠ k ∧ s.slotMap[j] = some i) →
        exec (.slotMapWrite tag [v]) s = .next (answered tag 20 .duplicate [] t)) ∧
      (∀ new : Option SlotNo,
        ((v.toNat = 255 ∧ new = none) ∨
          ∃ i : SlotNo, v.toNat = i.val ∧ new = some i ∧ ∀ j : Fin 128, j ≠ k → s.slotMap[j] ≠ some i) →
        (s.slotMap[k] = new → exec (.slotMapWrite tag [v]) s = .next (written tag t)) ∧
        (s.slotMap[k] ≠ new → ∃ slots : Vector Slot 64,
          exec (.slotMapWrite tag [v]) s =
            .next (written tag { t with slotMap := s.slotMap.set k new, slots := slots }) ∧
          ∀ i : SlotNo, slots[i] = if s.slotMap[k] = some i ∨ new = some i then s.slots[i].map resetTracker
            else s.slots[i])))

/-- WRITE to a profile: RANGE, then ORDER, on the profile that results under the field mask, each field
from its bytes of the write form and by its number in the mask (R156, spec/12); otherwise the profile with
its valid mark set, and the segments of every slot of the family reset (R23, R24). WRITE to a curve point: a
resulting factor of 0 erases it; otherwise RANGE, then ORDER against the written points of its curve, then the
written point (R54, R55), and no slot changes (R56). -/
def Obligations.ProfileAndCurveWritten : Prop :=
    (∀ (tag : Byte) (params : List Byte) (s t : State) (k : Fin 4), Heard tag 20 params s t → params.length = 25 →
      s.pointer = { table := 1, index := k.val } →
      let old := s.profiles[k]
      let p : Profile :=
        { valid := true
          fullMark := masked s.fieldMask 0 old.fullMark (unsignedAt params 0 2)
          emptyMark := masked s.fieldMask 1 old.emptyMark (unsignedAt params 2 2)
          hardHigh := masked s.fieldMask 2 old.hardHigh (unsignedAt params 4 2)
          hardLow := masked s.fieldMask 3 old.hardLow (unsignedAt params 6 2)
          restThreshold := masked s.fieldMask 4 old.restThreshold (unsignedAt params 8 2)
          stepMinimum := masked s.fieldMask 5 old.stepMinimum (unsignedAt params 10 3)
          stepInterval := masked s.fieldMask 6 old.stepInterval (unsignedAt params 13 2)
          settleTime := masked s.fieldMask 7 old.settleTime (unsignedAt params 15 2)
          restWindow := masked s.fieldMask 8 old.restWindow (unsignedAt params 17 3)
          maxGap := masked s.fieldMask 9 old.maxGap (unsignedAt params 20 2)
          gapAllowance := masked s.fieldMask 10 old.gapAllowance (byteAt params 22)
          hardTemperature := masked s.fieldMask 11 old.hardTemperature (signedAt params 23 2) }
      let inRange := (20000 ≤ p.fullMark ∧ p.fullMark ≤ 50000) ∧ (20000 ≤ p.emptyMark ∧ p.emptyMark ≤ 50000) ∧
        (20000 ≤ p.hardHigh ∧ p.hardHigh ≤ 50000) ∧ (20000 ≤ p.hardLow ∧ p.hardLow ≤ 50000) ∧
        (1 ≤ p.restThreshold ∧ p.restThreshold ≤ 20000) ∧ (100 ≤ p.stepMinimum ∧ p.stepMinimum ≤ 200000) ∧
        (1 ≤ p.stepInterval ∧ p.stepInterval ≤ 1000) ∧ p.settleTime ≤ 7200 ∧
        (600 ≤ p.restWindow ∧ p.restWindow ≤ 86400) ∧ (100 ≤ p.maxGap ∧ p.maxGap ≤ 10000) ∧ p.gapAllowance ≤ 255 ∧
        (-400 ≤ p.hardTemperature ∧ p.hardTemperature ≤ 1000)
      let ordered := p.hardLow < p.emptyMark ∧ p.emptyMark < p.fullMark ∧ p.fullMark < p.hardHigh
      (¬ inRange → exec (.profileWrite tag params) s = .next (answered tag 20 .range [] t)) ∧
      (inRange → ¬ ordered → exec (.profileWrite tag params) s = .next (answered tag 20 .order [] t)) ∧
      (inRange → ordered → ∃ slots : Vector Slot 64,
        exec (.profileWrite tag params) s =
          .next (written tag { t with profiles := s.profiles.set k p, slots := slots }) ∧
        ∀ i : SlotNo, (∀ m, s.slots[i] = some m → m.family.val = k.val → slots[i] = some (resetTracker m)) ∧
          ((∀ m, s.slots[i] = some m → m.family.val ≠ k.val) → slots[i] = s.slots[i]))) ∧
    (∀ (tag : Byte) (params : List Byte) (s t : State) (k : Fin 32), Heard tag 20 params s t → params.length = 4 →
      s.pointer = { table := 2, index := k.val } →
      let temp := masked s.fieldMask 0 s.curves[k].temperature (signedAt params 0 2)
      let factor := masked s.fieldMask 1 s.curves[k].factor (unsignedAt params 2 2)
      let inRange := -400 ≤ temp ∧ temp ≤ 1250 ∧ 500 ≤ factor ∧ factor ≤ 2000
      let ordered := ∀ j : Fin 32, j.val / 8 = k.val / 8 → s.curves[j].written = true →
        (j < k → s.curves[j].temperature < temp) ∧ (k < j → temp < s.curves[j].temperature)
      (factor = 0 → exec (.curveWrite tag params) s =
        .next (written tag { t with curves := s.curves.set k { written := false, temperature := 0, factor := 0 } })) ∧
      (factor ≠ 0 → ¬ inRange → exec (.curveWrite tag params) s = .next (answered tag 20 .range [] t)) ∧
      (factor ≠ 0 → inRange → ¬ ordered → exec (.curveWrite tag params) s = .next (answered tag 20 .order [] t)) ∧
      (factor ≠ 0 → inRange → ordered → exec (.curveWrite tag params) s =
        .next (written tag { t with
          curves := s.curves.set k { written := true, temperature := temp, factor := factor } })))

/-- WRITE to a grade row: CERTIFIED, EDIT, then RANGE on the code, the count and the figures of the row that results
under the field mask (R88); otherwise the row, with each threshold clamped to the range of its figure (R70, R89), and
the window's written mark. The count, figures, predicates and strict marks come from the written criteria of five bytes
each (spec/12), or from the present row when the mask names them; threshold j comes from the present criterion j when
the mask names it and there is one (R89, R156). -/
def Obligations.GradeRowWritten : Prop :=
  ∀ (tag : Byte) (params : List Byte) (s t : State) (k : Fin 16), Heard tag 20 params s t → params.length = 24 →
    s.pointer = { table := 3, index := k.val } →
    let old := s.rows[k]
    let code := masked s.fieldMask 1 old.code (byteAt params 1)
    let predicate := fun j => byteAt params (5 + 5 * j)
    let thresholdWritten := fun j => signedAt params (6 + 5 * j) 3
    let criterionWritten : Nat → Option Criterion := fun j =>
      ([FigureKind.cap, .soh, .rdc, .sdr, .tmax, .nstep][byteAt params (4 + 5 * j)]?).map fun figure =>
        { figure := figure
          predicate := { less := (predicate j).testBit 0, equal := (predicate j).testBit 1,
                         greater := (predicate j).testBit 2, unknown := (predicate j).testBit 3 }
          strict := (predicate j).testBit 4
          threshold := thresholdWritten j }
    let criteria : List (Option Criterion) :=
      masked s.fieldMask 3 (old.criteria.map some) ((List.range (byteAt params 3)).map criterionWritten)
    let threshold := fun j : Nat => match old.criteria[j]? with
      | some c => masked s.fieldMask (4 + j) c.threshold (thresholdWritten j)
      | none => thresholdWritten j
    let clamped : FigureKind → Int → Int := fun figure v => match figure with
      | .cap => max 0 (min 65535 v)
      | .soh => max 0 (min 1500 v)
      | .rdc => max 0 (min 65535 v)
      | .sdr => max 0 (min 65535 v)
      | .tmax => max (-400) (min 1250 v)
      | .nstep => max 0 (min 4 v)
    (tableCertified s = true → exec (.gradeRowWrite tag params) s = .next (answered tag 20 .certified [] t)) ∧
    (tableCertified s = false → s.window = none →
      exec (.gradeRowWrite tag params) s = .next (answered tag 20 .edit [] t)) ∧
    (∀ w, s.window = some w →
      (code < 1 ∨ 15 < code ∨ 4 < criteria.length ∨ none ∈ criteria →
        exec (.gradeRowWrite tag params) s = .next (answered tag 20 .range [] t)) ∧
      (∀ cs : List Criterion, 1 ≤ code → code ≤ 15 → criteria = cs.map some → cs.length ≤ 4 →
        ∃ row : GradeRow,
          exec (.gradeRowWrite tag params) s =
            .next (written tag { t with
              rows := s.rows.set k row, window := some { written := true, shadow := w.shadow } }) ∧
          row.enabled = masked s.fieldMask 0 old.enabled ((byteAt params 0).testBit 0) ∧ row.code = code ∧
          row.families = masked s.fieldMask 2 old.families (BitVec.ofNat 4 (byteAt params 2)) ∧
          row.criteria.length = cs.length ∧
          ∀ (j : Nat) (c : Criterion), cs[j]? = some c →
            row.criteria[j]? = some { c with threshold := clamped c.figure (threshold j) }))

/-- WRITE to the bank map by the order of R96, on the string that results under the field mask, each field from its
bytes of the write form and by its number in the mask (R97, R156, spec/12); accepted, it resets the plan (R98). -/
def Obligations.BankMapWritten : Prop :=
  ∀ (tag : Byte) (params : List Byte) (s t : State) (k : Fin 8), Heard tag 20 params s t → params.length = 11 →
    s.pointer = { table := 4, index := k.val } →
    let old := s.bank[k]
    let family := masked s.fieldMask 1 old.family.val (byteAt params 1)
    let b : BankString :=
      { enabled := masked s.fieldMask 0 old.enabled ((byteAt params 0).testBit 0)
        family := Fin.ofNat 4 family
        kind := masked s.fieldMask 2 old.kind (if (byteAt params 2).testBit 0 then .paired else .single)
        first := masked s.fieldMask 3 old.first (byteAt params 3)
        count := masked s.fieldMask 4 old.count (byteAt params 4)
        gradeMask := masked s.fieldMask 5 old.gradeMask (BitVec.ofNat 16 (unsignedAt params 5 2))
        capTolerance := masked s.fieldMask 6 old.capTolerance (unsignedAt params 7 2)
        pairTolerance := masked s.fieldMask 7 old.pairTolerance (unsignedAt params 9 2) }
    let span := fun x : BankString => if x.kind = .paired then 2 * x.count else x.count
    let inRange := family ≤ 3 ∧ 1 ≤ b.count ∧ b.count ≤ 16 ∧ b.first ≤ 63 ∧ b.gradeMask.getLsbD 0 = false ∧
      b.gradeMask.getLsbD 15 = false ∧ b.capTolerance ≤ 500 ∧ b.first + span b ≤ 64
    let disjoint := b.enabled = false ∨ ∀ j : Fin 8, j ≠ k → s.bank[j].enabled = true →
      b.first + span b ≤ s.bank[j].first ∨ s.bank[j].first + span s.bank[j] ≤ b.first
    let fixed := ∃ p : PlaceNo, s.places[p].fixed = true
    (s.run ≠ none → exec (.bankMapWrite tag params) s = .next (answered tag 20 .busy [] t)) ∧
    (s.run = none → fixed → exec (.bankMapWrite tag params) s = .next (answered tag 20 .fixed [] t)) ∧
    (s.run = none → ¬ fixed → ¬ inRange →
      exec (.bankMapWrite tag params) s = .next (answered tag 20 .range [] t)) ∧
    (s.run = none → ¬ fixed → inRange → b.kind = .paired → b.first % 2 = 1 →
      exec (.bankMapWrite tag params) s = .next (answered tag 20 .misaligned [] t)) ∧
    (s.run = none → ¬ fixed → inRange → (b.kind = .single ∨ b.first % 2 = 0) → ¬ disjoint →
      exec (.bankMapWrite tag params) s = .next (answered tag 20 .overlap [] t)) ∧
    (s.run = none → ¬ fixed → inRange → (b.kind = .single ∨ b.first % 2 = 0) → disjoint →
      exec (.bankMapWrite tag params) s = .next (written tag { t with
        bank := s.bank.set k b
        places := Vector.replicate 64 Place.empty
        records := Vector.replicate 8 StringRecord.initial }))

/-- WRITE to the settings: RANGE when a field that results under the field mask lies outside its range, otherwise the
resulting values at once (R172). A field that the mask names keeps its value, and every other takes the written one
(R156). That bits 5 to 7 of the address source and the bits of the default mask above 7 are
ignored is the model's reading of the set fields of R178 (DEDUCED, log entry 18). -/
def Obligations.SettingsWritten : Prop :=
  (∀ (n : Nat) (present written : Nat),
    masked none n present written = written ∧
    ∀ m : BitVec 16, masked (some m) n present written = if m.getLsbD n = true then present else written) ∧
  ∀ (tag : Byte) (params : List Byte) (s t : State), Heard tag 20 params s t → params.length = 8 →
    s.pointer.table = 9 →
    let boot := masked s.fieldMask 0 s.settings.bootImage (byteAt params 0)
    let stored := masked s.fieldMask 2 s.settings.storedAddress.toNat (byteAt params 2)
    let timeout := masked s.fieldMask 3 s.settings.silenceTimeout (unsignedAt params 3 2)
    let rerun := masked s.fieldMask 4 s.settings.autoRerun (byteAt params 5)
    let inRange := 5 ≤ boot ∧ boot ≤ 8 ∧ stored ≤ 31 ∧ 500 ≤ timeout ∧ timeout ≤ 60000 ∧ rerun ≤ 3
    (¬ inRange → exec (.settingsWrite tag params) s = .next (answered tag 20 .range [] t)) ∧
    (inRange → exec (.settingsWrite tag params) s = .next (written tag { t with settings :=
      { bootImage := boot
        addressSource := masked s.fieldMask 1 s.settings.addressSource (BitVec.ofNat 5 (byteAt params 1))
        storedAddress := BitVec.ofNat 5 stored
        silenceTimeout := timeout
        autoRerun := rerun
        defaultMask := masked s.fieldMask 5 s.settings.defaultMask
          (BitVec.ofNat 8 (unsignedAt params 6 2)) } }))

/-- EDIT OPEN in the order of R87; EDIT CLOSE and EDIT CANCEL are refused STATE with the window closed, and otherwise
close it, keep or take back the rows, and evaluate every slot again in ascending number (R90, R91, R83). That an idle
up-port starts the answer before the reports of that evaluation, which R83 leaves open, is the model's choice (log entry
8). -/
def Obligations.EditWindowDirectives : Prop :=
  ∀ (tag : Byte) (s t : State),
    (Heard tag 21 [] s t →
      (s.window ≠ none → exec (.editOpen tag []) s = .next (answered tag 21 .state [] t)) ∧
      (s.window = none → s.run ≠ none → exec (.editOpen tag []) s = .next (answered tag 21 .busy [] t)) ∧
      (s.window = none → s.run = none → tableCertified s = true →
        exec (.editOpen tag []) s = .next (answered tag 21 .certified [] t)) ∧
      (s.window = none → s.run = none → tableCertified s = false → exec (.editOpen tag []) s =
        .next (answered tag 21 .done [] { t with window := some { written := false, shadow := s.rows } }))) ∧
    (Heard tag 22 [] s t →
      (s.window = none → exec (.editClose tag []) s = .next (answered tag 22 .state [] t)) ∧
      (∀ w, s.window = some w → exec (.editClose tag []) s = .next (answered tag 22 .done []
        ((List.finRange 64).foldl (fun u i => evaluateSlot i u)
          { t with window := none, modified := s.modified || w.written })))) ∧
    (Heard tag 23 [] s t →
      (s.window = none → exec (.editCancel tag []) s = .next (answered tag 23 .state [] t)) ∧
      (∀ w, s.window = some w → exec (.editCancel tag []) s = .next (answered tag 23 .done []
        ((List.finRange 64).foldl (fun u i => evaluateSlot i u) { t with window := none, rows := w.shadow }))))

/-! ## Slots -/

/-- ADMIT by the order of R12: the first condition that fails gives the outcome; when all pass the slot is ADMITTED with
what it is given, grade 0, no figure, an empty step list and the initial tracker. -/
def Obligations.AdmitByOrder : Prop :=
  ∀ (tag slot family cells r1 r0 : Byte) (name : List Byte) (s t : State), name.length = 16 →
    let params := slot :: family :: cells :: r1 :: r0 :: name
    let rated := r1.toNat * 256 + r0.toNat
    Heard tag 32 params s t →
    (64 ≤ slot.toNat → exec (.admitModule tag params) s = .next (answered tag 32 .range [] t)) ∧
    (∀ i : SlotNo, slot.toNat = i.val →
      (s.slots[i] ≠ none → exec (.admitModule tag params) s = .next (answered tag 32 .state [] t)) ∧
      (s.slots[i] = none → 4 ≤ family.toNat →
        exec (.admitModule tag params) s = .next (answered tag 32 .range [] t)) ∧
      (∀ f : Family, family.toNat = f.val → s.slots[i] = none →
        (s.profiles[f].valid = false →
          exec (.admitModule tag params) s = .next (answered tag 32 .profile [] t)) ∧
        (s.profiles[f].valid = true →
          (rated = 0 ∨ cells.toNat < 1 ∨ 24 < cells.toNat ∨ 800000 < cells.toNat * s.profiles[f].hardHigh →
            exec (.admitModule tag params) s = .next (answered tag 32 .range [] t)) ∧
          (rated ≠ 0 → 1 ≤ cells.toNat → cells.toNat ≤ 24 → cells.toNat * s.profiles[f].hardHigh ≤ 800000 →
            exec (.admitModule tag params) s = .next (answered tag 32 .done [] { t with
              slots := s.slots.set i (some
                { state := .admitted, tag := name, family := f, cells := cells.toNat, rated := rated,
                  figures := { cap := none, soh := none, rdc := none, sdr := none, tmax := none, steps := [] },
                  grade := 0, gradeRow := none, restored := false, completedRuns := 0,
                  tracker := { previous := none, phase := .none, charged := false, run := none,
                               window := none } }) })))))

/-- WITHDRAW by R13: RANGE, STATE and FIXED; otherwise the slot leaves its place with its paired partner, the review
mark of the position is cleared (R112), a PLANNED string becomes INCOMPLETE (R10), an unstruck entry disturbs the run
(R129), its waiting reports go, and it is VACANT. -/
def Obligations.WithdrawEffect : Prop :=
  ∀ (tag slot : Byte) (s t : State), Heard tag 33 [slot] s t →
    (64 ≤ slot.toNat → exec (.withdraw tag [slot]) s = .next (answered tag 33 .range [] t)) ∧
    (∀ i : SlotNo, slot.toNat = i.val →
      (s.slots[i] = none → exec (.withdraw tag [slot]) s = .next (answered tag 33 .state [] t)) ∧
      (s.slots[i] ≠ none → inFixedPlace s i = true →
        exec (.withdraw tag [slot]) s = .next (answered tag 33 .fixed [] t)) ∧
      (s.slots[i] ≠ none → inFixedPlace s i = false → ∃ u : State,
        exec (.withdraw tag [slot]) s = .next (answered tag 33 .done [] u) ∧
        u = { t with slots := s.slots.set i none, places := u.places, records := u.records,
                     reports := s.reports.filter (fun r => decide (r.slot ≠ some i)), run := u.run } ∧
        (placeOf s i = none → u.places = s.places ∧ u.records = s.records) ∧
        (∀ q string pos, placeOf s i = some q → ownerOf s.bank q = some (string, pos) →
          PositionLeft string pos s u) ∧
        (s.run = none → u.run = none) ∧
        (∀ r, s.run = some r → u.run = some { r with disturbed := r.disturbed || hasUnstruckEntry s i })))

/-- CLEAR FIGURES by R14: RANGE for a bad slot or an empty set, STATE for a slot that is not TESTING, GRADED or INSTALLED;
otherwise the named figures go, SOH with CAP and the step list with RDC, the segments are reset, a FIGURE report of
the figures made absent is requested, an unstruck entry disturbs the run, the slot is evaluated, unless the edit
window is open, the review test of R111 runs when CAP is named, and completed runs, the restored mark and every other
slot stay. That bits 5 to 7 of the set are ignored, so that a set of them alone is empty, is the model's reading of
the set fields of R178 (DEDUCED, log entry 18). That an idle up-port starts the answer before the reports of the same
directive is the model's choice (log entry 8). -/
def Obligations.ClearFiguresEffect : Prop :=
  ∀ (tag slot set : Byte) (s t : State), Heard tag 34 [slot, set] s t →
    let named := fun k => set.toNat.testBit k
    let empty := ∀ k < 5, named k = false
    (64 ≤ slot.toNat ∨ empty → exec (.clearFigures tag [slot, set]) s = .next (answered tag 34 .range [] t)) ∧
    (∀ i : SlotNo, slot.toNat = i.val → ¬ empty →
      ((∀ m, s.slots[i] = some m → m.state = .admitted ∨ m.isQuarantined = true) →
        exec (.clearFigures tag [slot, set]) s = .next (answered tag 34 .state [] t)) ∧
      (∀ m, s.slots[i] = some m → m.state ≠ .admitted → m.isQuarantined = false → ∃ (u : State) (m' : ModuleRecord),
        exec (.clearFigures tag [slot, set]) s = .next (answered tag 34 .done [] u) ∧
        u = { t with slots := u.slots, places := u.places, records := u.records, reports := u.reports,
                     causeFlags := u.causeFlags, counters := u.counters, run := u.run } ∧
        u.slots[i] = some m' ∧ (∀ j : SlotNo, j ≠ i → u.slots[j] = s.slots[j]) ∧
        m'.tracker = Tracker.initial ∧ m'.completedRuns = m.completedRuns ∧ m'.restored = m.restored ∧
        m'.tag = m.tag ∧ m'.family = m.family ∧ m'.cells = m.cells ∧ m'.rated = m.rated ∧
        m'.figures.cap = (if named 0 then none else m.figures.cap) ∧
        m'.figures.soh = (if named 0 ∨ named 1 then none else m.figures.soh) ∧
        m'.figures.rdc = (if named 2 then none else m.figures.rdc) ∧
        m'.figures.steps = (if named 2 then [] else m.figures.steps) ∧
        m'.figures.sdr = (if named 3 then none else m.figures.sdr) ∧
        m'.figures.tmax = (if named 4 then none else m.figures.tmax) ∧
        (s.window ≠ none → m'.grade = m.grade ∧ m'.state = m.state) ∧
        u.causeFlags.getLsbD 1 = true ∧
        (hasUnstruckEntry s i = true → ∀ r, u.run = some r → r.disturbed = true) ∧
        ∃ figures : BitVec 6,
          (∀ k : Fin 6, figures.getLsbD k = true ↔
            (k.val < 5 ∧ named k = true) ∨ (k.val = 1 ∧ named 0 = true) ∨ (k.val = 5 ∧ named 2 = true)) ∧
          let cleared : State := { t with
            slots := s.slots.set i (some { m with figures := m'.figures, tracker := Tracker.initial }) }
          let told := requestReport (.figure i figures) cleared
          let disturbed : State := { told with
            run := s.run.map fun r => { r with disturbed := r.disturbed || hasUnstruckEntry s i } }
          let evaluated := evaluateSlot i disturbed
          u = if named 0 = true then reviewTest i evaluated else evaluated))

/-! ## Planning (spec/06) -/

/-- The candidate list holds exactly the slots of R117, with the copies of R118, and stands in the list order: CAP
descending, RDC ascending with the absent last, slot number ascending. -/
def Obligations.CandidatesListed : Prop :=
  ∀ s : State,
    (candidateList s).Pairwise (fun a b => b.cap < a.cap ∨ (a.cap = b.cap ∧
      ((∃ x, a.rdc = some x ∧ (b.rdc = none ∨ ∃ y, b.rdc = some y ∧ (x < y ∨ (x = y ∧ a.slot < b.slot)))) ∨
        (a.rdc = none ∧ b.rdc = none ∧ a.slot < b.slot)))) ∧
    (∀ c : Candidate, c ∈ candidateList s ↔
      ∃ m cap, s.slots[c.slot] = some m ∧ m.state = .graded ∧ inFixedPlace s c.slot = false ∧
        m.figures.cap = some cap ∧
        (∃ i : StringNo, s.bank[i].enabled = true ∧ s.bank[i].family = m.family ∧
          s.bank[i].gradeMask.getLsbD m.grade = true) ∧
        c = { slot := c.slot, family := m.family, grade := m.grade, cap := cap.value,
              rdc := m.figures.rdc.map (·.value), taken := false, struck := false })

/-- PLAN RUN starts a run from the slots as they stand, refused BUSY then EDIT (R116, R119); PLAN HOLD and PLAN RESUME
change the run state alone (R130, R131); PLAN ABORT ends the run with a PLAN report ABORTED (R132, R137). That an idle
up-port starts the answer to PLAN ABORT before that report is the model's choice (log entry 8). -/
def Obligations.PlanDirectives : Prop :=
  ∀ (tag : Byte) (s t : State),
    (Heard tag 48 [] s t →
      (s.run ≠ none → exec (.planRun tag []) s = .next (answered tag 48 .busy [] t)) ∧
      (s.run = none → s.window ≠ none → exec (.planRun tag []) s = .next (answered tag 48 .edit [] t)) ∧
      (s.run = none → s.window = none → exec (.planRun tag []) s = .next (answered tag 48 .done []
        { t with run := some { mode := .running, current := none, lastProcessed := none, disturbed := false,
                               budget := s.settings.autoRerun, candidates := candidateList s,
                               tentative := [] } }))) ∧
    (Heard tag 49 [] s t →
      (∀ r, s.run = some r → r.mode = .running → exec (.planHold tag []) s =
        .next (answered tag 49 .done [] { t with run := some { r with mode := .held } })) ∧
      ((∀ r, s.run = some r → r.mode = .held) →
        exec (.planHold tag []) s = .next (answered tag 49 .state [] t))) ∧
    (Heard tag 50 [] s t →
      (∀ r, s.run = some r → r.mode = .held → exec (.planResume tag []) s =
        .next (answered tag 50 .done [] { t with run := some { r with mode := .running } })) ∧
      ((∀ r, s.run = some r → r.mode = .running) →
        exec (.planResume tag []) s = .next (answered tag 50 .state [] t))) ∧
    (Heard tag 51 [] s t →
      (s.run = none → exec (.planAbort tag []) s = .next (answered tag 51 .state [] t)) ∧
      (s.run ≠ none → exec (.planAbort tag []) s = .next (answered tag 51 .done []
        (requestReport (.plan .aborted false (s.records.toList.map (·.state))) { t with run := none }))))

/-- The opening step takes the next enabled string with its fixed reference and its non-fixed positions, a wholly fixed
one being processed at once (R120). The filling step fills the next position of the current string with the slots
chosen, marks them taken and sets an unset reference (R121, R122); the last position makes the string PLANNED
(R124), and a position without a choice makes it SHORT with its takes released and its fixed reference (R123). The key of a
position is the CAP of its slot, or the sum of the CAPs of its two, absent when a place is empty or a CAP absent (R101);
the fixed reference is the key of the lowest fixed position whose key is present (R103). -/
def Obligations.OpeningAndFilling : Prop :=
    (∀ (s : State) (r : PlanningRun) (i : StringNo), s.run = some r → r.mode = .running → r.current = none →
      s.bank[i].enabled = true → (∀ l, r.lastProcessed = some l → l < i) →
      (∀ j : StringNo, j < i → s.bank[j].enabled = true → ∃ l, r.lastProcessed = some l ∧ j ≤ l) →
      let toFill := (List.range s.bank[i].count).filter (fun pos => !positionFixed s i pos)
      (toFill = [] → exec .opening s = .next { s with run := some { r with
        tentative := r.tentative ++ [{ string := i, planned := true, reference := fixedReference s i, choices := [] }]
        lastProcessed := some i
        current := none } }) ∧
      (toFill ≠ [] → exec .opening s = .next { s with run := some { r with
        current := some { string := i, fixedReference := fixedReference s i, reference := fixedReference s i,
                          toFill := toFill, choices := [] } } })) ∧
    (∀ (s : State) (r : PlanningRun) (c : CurrentString) (pos : Nat) (rest : List Nat),
      s.run = some r → r.mode = .running → r.current = some c → c.toFill = pos :: rest →
      let choice := chooseFor s.bank[c.string] c.reference r.candidates
      let marked := fun (slots : List SlotNo) (v : Bool) =>
        r.candidates.map fun d => if d.slot ∈ slots then { d with taken := v } else d
      (∀ slots key, choice = some (slots, key) →
        let ref := if c.reference = none then some key else c.reference
        let choices := c.choices ++ [{ position := pos, slots := slots }]
        (rest ≠ [] → exec .filling s = .next { s with run := some { r with
          candidates := marked slots true
          current := some { c with reference := ref, toFill := rest, choices := choices } } }) ∧
        (rest = [] → exec .filling s = .next { s with run := some { r with
          candidates := marked slots true
          tentative := r.tentative ++ [{ string := c.string, planned := true, reference := ref, choices := choices }]
          lastProcessed := some c.string
          current := none } })) ∧
      (choice = none → exec .filling s = .next { s with run := some { r with
        candidates := marked (c.choices.flatMap (·.slots)) false
        tentative := r.tentative ++
          [{ string := c.string, planned := false, reference := c.fixedReference, choices := [] }]
        lastProcessed := some c.string
        current := none } })) ∧
    (∀ (s : State) (i : StringNo) (pos : Nat),
      let cap := fun (p : PlaceNo) (v : Nat) => ∃ slot m c, s.places[p].slot = some slot ∧ s.slots[slot] = some m ∧
        m.figures.cap = some c ∧ c.value = v
      (∀ p : PlaceNo, s.bank[i].kind = .single → p.val = s.bank[i].first + pos →
        ∀ key, positionKey s i pos = some key ↔ cap p key) ∧
      (∀ p q : PlaceNo, s.bank[i].kind = .paired → p.val = s.bank[i].first + 2 * pos → q.val = p.val + 1 →
        ∀ key, positionKey s i pos = some key ↔ ∃ a b, cap p a ∧ cap q b ∧ a + b = key)) ∧
    (∀ (s : State) (i : StringNo) (key : Nat), fixedReference s i = some key ↔
      ∃ pos, pos < s.bank[i].count ∧ positionFixed s i pos = true ∧ positionKey s i pos = some key ∧
        ∀ lower, lower < pos → positionFixed s i lower = true → positionKey s i lower = none)

/-- The choice for a position is greedy, over the candidates that are not taken and not struck, of the string's family
and with a grade in its mask (R121), within the per-mille tolerance of the reference (R102): the first eligible candidate
within tolerance (R121), or the first outer candidate with an accepted partner after it, and its first such partner
(R122). -/
def Obligations.ChoiceIsGreedy : Prop :=
  ∀ (b : BankString) (ref : Option Nat) (cs : List Candidate),
    let eligible := fun c : Candidate => c.taken = false ∧ c.struck = false ∧ c.family = b.family ∧
      b.gradeMask.getLsbD c.grade = true
    let within := fun key : Nat => ∀ r : Nat, ref = some r →
      ((key : Int) - r).natAbs * 1000 ≤ b.capTolerance * r
    let single := fun c : Candidate => eligible c ∧ within c.cap
    let outer := fun a : Candidate => eligible a ∧ a.rdc ≠ none
    let pair := fun a c : Candidate => eligible c ∧
      (∃ x y, a.rdc = some x ∧ c.rdc = some y ∧ x ≤ y + b.pairTolerance ∧ y ≤ x + b.pairTolerance) ∧
      within (a.cap + c.cap)
    (b.kind = .single → ∀ slots key, chooseFor b ref cs = some (slots, key) ↔
      ∃ pre c post, cs = pre ++ c :: post ∧ single c ∧ (∀ x ∈ pre, ¬ single x) ∧ slots = [c.slot] ∧ key = c.cap) ∧
    (b.kind = .paired → ∀ slots key, chooseFor b ref cs = some (slots, key) ↔
      ∃ pre a mid c post, cs = pre ++ a :: (mid ++ c :: post) ∧ outer a ∧ pair a c ∧ (∀ x ∈ mid, ¬ pair a x) ∧
        (∀ p x q, pre = p ++ x :: q → outer x → ∀ y ∈ q ++ a :: (mid ++ c :: post), ¬ pair x y) ∧
        slots = [a.slot, c.slot] ∧ key = a.cap + c.cap)

/-- The completion step discards a disturbed run, with a rerun from a fresh list while budget remains (R128), and adopts
an undisturbed one (R126, R127): no slot record and no fixed place changes, every other place of a processed string is
emptied and takes the slot chosen for it, if one was, and each processed string takes its tentative state and
reference with every review mark clear. -/
def Obligations.CompletionEndsRun : Prop :=
  ∀ (s : State) (r : PlanningRun), s.run = some r → r.mode = .running → r.current = none →
    (∀ j : StringNo, s.bank[j].enabled = true → ∃ l, r.lastProcessed = some l ∧ j ≤ l) →
    let states := fun u : State => u.records.toList.map (·.state)
    let rerun : PlanningRun :=
      { mode := .running, current := none, lastProcessed := none, disturbed := false, budget := r.budget - 1,
        candidates := candidateList s, tentative := [] }
    (r.disturbed = true → r.budget = 0 → exec .completion s = .next (startPorts
      (requestReport (.plan .disturbed false (states s)) { s with run := none }))) ∧
    (r.disturbed = true → r.budget ≠ 0 → exec .completion s = .next (startPorts
      (requestReport (.plan .disturbed true (states s)) { s with run := some rerun }))) ∧
    (r.disturbed = false → ∃ u : State,
      exec .completion s = .next (startPorts (requestReport (.plan .adopted false (states u)) u)) ∧
      u = { s with run := none, places := u.places, records := u.records } ∧
      (∀ i : StringNo, (∀ e ∈ r.tentative, e.string ≠ i) → u.records[i] = s.records[i]) ∧
      (∀ pre e post, r.tentative = pre ++ e :: post → (∀ e' ∈ post, e'.string ≠ e.string) →
        u.records[e.string] =
          { state := if e.planned = true then .planned else .short, reference := e.reference, review := 0 }) ∧
      (∀ p : PlaceNo, u.places[p].fixed = s.places[p].fixed ∧ u.places[p].alarm = s.places[p].alarm) ∧
      (∀ p : PlaceNo,
        (∀ e ∈ r.tentative, ∀ c ∈ e.choices, p ∉ s.bank[e.string].placesOf c.position) →
        (∀ e ∈ r.tentative, ∀ pos, pos < s.bank[e.string].count → p ∈ s.bank[e.string].placesOf pos →
          positionFixed s e.string pos = true) →
        u.places[p] = s.places[p]) ∧
      (∀ e ∈ r.tentative, ∀ pos, pos < s.bank[e.string].count → positionFixed s e.string pos = false →
        ∀ p ∈ s.bank[e.string].placesOf pos,
          (∀ e' ∈ r.tentative, ∀ c ∈ e'.choices, p ∉ s.bank[e'.string].placesOf c.position) →
          u.places[p] = { s.places[p] with slot := none }) ∧
      (∀ e ∈ r.tentative, ∀ c ∈ e.choices, ∀ (k : Nat) (p : PlaceNo) (i : SlotNo),
        (s.bank[e.string].placesOf c.position)[k]? = some p →
        c.slots[k]? = some i →
        (∀ e' ∈ r.tentative, ∀ c' ∈ e'.choices, ∀ k' : Nat,
          (s.bank[e'.string].placesOf c'.position)[k']? = some p → c'.slots[k']? = some i) →
        u.places[p].slot = some i))

/-! ## Fixing (spec/05) -/

/-- FIX and UNFIX by the orders of R106 and R107, with BUSY while a run is RUNNING and ACTIVE for the current string of a
held one (R133); accepted, FIX fixes the places and installs the slots (R5), strikes their entries (R134) and may
disturb the run, and UNFIX clears the marks, returns the slots (R6) and applies the eligibility rule (R110). The
places of a position and the owner of a place are those of R95, a slot stands in the place that holds it (R99), and the marks
and slots of a position are those of its places. FIX makes a GRADED slot INSTALLED with its current grade and no drift
(R5), and UNFIX makes an INSTALLED slot GRADED, or TESTING at grade 0, and takes the installed grade of a QUARANTINED one
(R6). The eligibility rule keeps a slot of a non-fixed place that is GRADED with a grade in the mask of its string, and any
other leaves the place as R10 says. -/
def Obligations.FixAndUnfix : Prop :=
  (∀ (b : BankString) (pos : Nat) (p q : PlaceNo),
    (b.kind = .single → p.val = b.first + pos → b.placesOf pos = [p]) ∧
    (b.kind = .paired → p.val = b.first + 2 * pos → q.val = p.val + 1 → b.placesOf pos = [p, q])) ∧
  (∀ (bank : BankMap) (p : PlaceNo), BankSound bank → ∀ (i : StringNo) (pos : Nat),
    ownerOf bank p = some (i, pos) ↔ bank[i].enabled = true ∧ pos < bank[i].count ∧
      ((bank[i].kind = .single ∧ p.val = bank[i].first + pos) ∨
        (bank[i].kind = .paired ∧ (p.val = bank[i].first + 2 * pos ∨ p.val = bank[i].first + 2 * pos + 1)))) ∧
  (∀ (s : State) (i : SlotNo),
    (∀ p, placeOf s i = some p → s.places[p].slot = some i) ∧
    (placeOf s i = none → ∀ p : PlaceNo, s.places[p].slot ≠ some i)) ∧
  (∀ (s : State) (i : StringNo) (pos : Nat),
    (positionFixed s i pos = true ↔ ∀ p ∈ s.bank[i].placesOf pos, s.places[p].fixed = true) ∧
    (positionFilled s i pos = true ↔ ∀ p ∈ s.bank[i].placesOf pos, s.places[p].slot ≠ none) ∧
    (∀ k, k ∈ positionSlots s i pos ↔ ∃ p ∈ s.bank[i].placesOf pos, s.places[p].slot = some k) ∧
    ∀ r : StringRecord, (clearReview pos r).state = r.state ∧ (clearReview pos r).reference = r.reference ∧
      ∀ k : Fin 16, (clearReview pos r).review.getLsbD k = (r.review.getLsbD k && decide (k.val ≠ pos))) ∧
  (∀ (s : State) (k : SlotNo) (q : PlaceNo) (string : StringNo) (pos : Nat),
    placeOf s k = some q → s.places[q].fixed = false → ownerOf s.bank q = some (string, pos) →
    let fits := ∃ m, s.slots[k] = some m ∧ m.state = .graded ∧ s.bank[string].gradeMask.getLsbD m.grade = true
    let u := applyEligibility k s
    (fits → u = s) ∧
    (¬ fits → PositionLeft string pos s u ∧ u = { s with places := u.places, records := u.records })) ∧
  (∀ m : ModuleRecord,
    (m.state = .graded → installRecord m = { m with state := .installed m.grade false }) ∧
    (∀ g d, m.state = .installed g d →
      releaseRecord m = { m with state := if m.grade = 0 then .testing else .graded }) ∧
    (∀ reason g, m.state = .quarantined reason g → releaseRecord m = { m with state := .quarantined reason none })) ∧
  ∀ (tag string position : Byte) (s t : State) (unfixing : Bool),
    let code := if unfixing then 53 else 52
    let c := if unfixing then Instr.unfix tag [string, position] else Instr.fix tag [string, position]
    let pos := position.toNat
    Heard tag code [string, position] s t →
    (8 ≤ string.toNat → exec c s = .next (answered tag code .range [] t)) ∧
    (∀ i : StringNo, string.toNat = i.val →
      (s.bank[i].count ≤ pos → exec c s = .next (answered tag code .range [] t)) ∧
      (pos < s.bank[i].count →
        let free := ∀ r, s.run = some r → r.mode = .held ∧ ∀ cur, r.current = some cur → cur.string ≠ i
        let slots := positionSlots s i pos
        let processed := fun r : PlanningRun => ∃ e ∈ r.tentative, e.string = i
        (s.bank[i].enabled = false → exec c s = .next (answered tag code .state [] t)) ∧
        (s.bank[i].enabled = true → ∀ r, s.run = some r → r.mode = .running →
          exec c s = .next (answered tag code .busy [] t)) ∧
        (s.bank[i].enabled = true → ∀ r cur, s.run = some r → r.mode = .held → r.current = some cur →
          cur.string = i → exec c s = .next (answered tag code .active [] t)) ∧
        (s.bank[i].enabled = true → free → positionFixed s i pos ≠ unfixing →
          exec c s = .next (answered tag code .state [] t)) ∧
        (unfixing = false → s.bank[i].enabled = true → free → positionFixed s i pos = false →
          positionFilled s i pos = false → exec c s = .next (answered tag code .empty [] t)) ∧
        (unfixing = false → s.bank[i].enabled = true → free → positionFixed s i pos = false →
          positionFilled s i pos = true → ∃ u : State,
          exec c s = .next (answered tag code .done [] u) ∧
          u = { t with places := u.places, slots := u.slots, records := u.records, run := u.run } ∧
          (∀ p : PlaceNo, u.places[p] =
            if p ∈ s.bank[i].placesOf pos then { s.places[p] with fixed := true } else s.places[p]) ∧
          (∀ k : SlotNo, u.slots[k] = if k ∈ slots then s.slots[k].map installRecord else s.slots[k]) ∧
          (∀ j : StringNo, u.records[j] = if j = i then clearReview pos s.records[i] else s.records[j]) ∧
          (s.run = none → u.run = none) ∧
          (∀ r, s.run = some r → ∃ d : Bool, u.run = some { r with
            candidates := r.candidates.map (fun x => if x.slot ∈ slots then { x with struck := true } else x)
            disturbed := d } ∧
            (d = true ↔ r.disturbed = true ∨ processed r ∨
              ∃ x ∈ r.candidates, x.slot ∈ slots ∧ x.taken = true))) ∧
        (unfixing = true → s.bank[i].enabled = true → free → positionFixed s i pos = true → ∃ u v : State,
          exec c s = .next (answered tag code .done [] v) ∧
          u = { t with places := u.places, slots := u.slots } ∧
          (∀ p : PlaceNo, u.places[p] =
            if p ∈ s.bank[i].placesOf pos then { s.places[p] with fixed := false, alarm := false }
            else s.places[p]) ∧
          (∀ k : SlotNo, u.slots[k] = if k ∈ slots then s.slots[k].map releaseRecord else s.slots[k]) ∧
          v = { slots.foldl (fun x k => applyEligibility k x) u with run := v.run } ∧
          (s.run = none → v.run = none) ∧
          (∀ r, s.run = some r → ∃ d : Bool, v.run = some { r with disturbed := d } ∧
            (d = true ↔ r.disturbed = true ∨ processed r)))))

/-- FIX ALL and UNFIX ALL are refused BUSY while a run exists; otherwise they take the positions of the enabled strings
in ascending order, each exactly as FIX or UNFIX takes one, and answer with their number (R108, R109). -/
def Obligations.FixAllAndUnfixAll : Prop :=
  ∀ (tag : Byte) (s t : State),
    let positions := (List.finRange 8).flatMap fun i =>
      if s.bank[i].enabled = true then (List.range s.bank[i].count).map fun pos => (i, pos) else []
    (s.run ≠ none →
      (Heard tag 54 [] s t → exec (.fixAll tag []) s = .next (answered tag 54 .busy [] t)) ∧
      (Heard tag 55 [] s t → exec (.unfixAll tag []) s = .next (answered tag 55 .busy [] t))) ∧
    (s.run = none →
      (Heard tag 54 [] s t → exec (.fixAll tag []) s =
        let done := positions.foldl (fun acc at_ =>
          if positionFixed acc.1 at_.1 at_.2 = false ∧ positionFilled acc.1 at_.1 at_.2 = true then
            (fixPosition at_.1 at_.2 acc.1, acc.2 + 1) else acc) (t, 0)
        .next (answered tag 54 .done (toBytes 1 done.2) done.1)) ∧
      (Heard tag 55 [] s t → exec (.unfixAll tag []) s =
        let done := positions.foldl (fun acc at_ =>
          if positionFixed acc.1 at_.1 at_.2 = true then (unfixPosition at_.1 at_.2 acc.1, acc.2 + 1) else acc) (t, 0)
        .next (answered tag 55 .done (toBytes 1 done.2) done.1)))

/-! ## The store (spec/10) -/

/-- STORE SAVE by the order of R168, every refusal clearing the latch; accepted, the content is copied as it stands, the
store is busy and the image is invalid, the nine other images keeping content and marks and every certified mark
staying (R166). The completion writes the content, sets the valid mark, clears the latch and requests a STORE report,
the nine other images and their certified marks staying again (R169). -/
def Obligations.SaveAndCompletion : Prop :=
  ∀ (tag image : Byte) (s t : State),
    let n := image.toNat
    let grade := fun g : GradeImage => n = g.val + 5
    let locked := n = 0 ∨ ∃ g, grade g ∧ s.store.certified[g] = true
    let copied : SavedContent → Prop := fun c =>
      (n = 1 ∧ c = .settings s.settings) ∨ (n = 2 ∧ c = .profiles { profiles := s.profiles, curves := s.curves }) ∨
      (n = 3 ∧ c = .slotMap s.slotMap) ∨ (n = 4 ∧ c = .bank s.bank) ∨ (∃ g, grade g ∧ c = .grades g s.rows) ∨
      (n = 9 ∧ c = .install { bank := s.bank, records := (fixedPositions s).map (installRecordOf s) })
    let latchless : State := { t with latch := false }
    let othersKept : Nat → ImageStore → Prop := fun k st =>
      st.identity = s.store.identity ∧ (k ≠ 1 → st.settings = s.store.settings) ∧
      (k ≠ 2 → st.profiles = s.store.profiles) ∧ (k ≠ 3 → st.slotMap = s.store.slotMap) ∧
      (k ≠ 4 → st.bank = s.store.bank) ∧ (k ≠ 9 → st.install = s.store.install) ∧
      ∀ g : GradeImage, k ≠ g.val + 5 →
        st.grades[g] = s.store.grades[g] ∧ st.certified[g] = s.store.certified[g]
    (Heard tag 66 [image] s t →
      (9 < n → exec (.storeSave tag [image]) s = .next (answered tag 66 .range [] latchless)) ∧
      (n ≤ 9 → s.latch = false → exec (.storeSave tag [image]) s = .next (answered tag 66 .notEnabled [] latchless)) ∧
      (n ≤ 9 → s.latch = true → locked →
        exec (.storeSave tag [image]) s = .next (answered tag 66 .locked [] latchless)) ∧
      (n ≤ 9 → s.latch = true → ¬ locked → s.storeWork ≠ none →
        exec (.storeSave tag [image]) s = .next (answered tag 66 .busy [] latchless)) ∧
      (s.latch = true → ¬ locked → s.storeWork = none → 5 ≤ n → n ≤ 8 → s.window ≠ none →
        exec (.storeSave tag [image]) s = .next (answered tag 66 .edit [] latchless)) ∧
      (n ≤ 9 → s.latch = true → ¬ locked → s.storeWork = none → (n < 5 ∨ n = 9 ∨ s.window = none) →
        ∃ (c : SavedContent) (st : ImageStore), copied c ∧
          exec (.storeSave tag [image]) s =
            .next (answered tag 66 .done [] { t with storeWork := some (.save c), store := st }) ∧
          (validMarks st).getLsbD n = false ∧ st.certified = s.store.certified ∧ othersKept n st ∧
          ∀ k : Fin 10, k.val ≠ n → (validMarks st).getLsbD k = (validMarks s.store).getLsbD k)) ∧
    (∀ c, s.storeWork = some (.save c) → ∃ st : ImageStore,
      exec .saveCompletion s = .next (startPorts (requestReport (.store .save c.image)
        { s with store := st, storeWork := none, latch := false })) ∧
      (validMarks st).getLsbD c.image = true ∧ othersKept c.image st ∧
      (∀ k : Fin 10, k.val ≠ c.image → (validMarks st).getLsbD k = (validMarks s.store).getLsbD k) ∧
      (∀ v, c = .settings v → st.settings = some v) ∧ (∀ v, c = .profiles v → st.profiles = some v) ∧
      (∀ v, c = .slotMap v → st.slotMap = some v) ∧ (∀ v, c = .bank v → st.bank = some v) ∧
      (∀ v, c = .install v → st.install = some v) ∧
      (∀ g v, c = .grades g v → st.grades[g] = some v ∧ st.certified[g] = false))

/-- STORE LOAD by the order of R170; a load that passes puts the image into force (R172, R22, R53, R17, R98, R93) and
writes nothing to the store. That an idle up-port starts the answer before the reports of the evaluation after a load of
images 5 to 8, which R83 leaves open, is the model's choice (log entry 8). -/
def Obligations.LoadByOrder : Prop :=
  ∀ (tag image : Byte) (s t : State), Heard tag 67 [image] s t →
    let n := image.toNat
    let run := exec (.storeLoad tag [image]) s
    let valid := (validMarks s.store).getLsbD n = true
    let fixed := ∃ p : PlaceNo, s.places[p].fixed = true
    let free := 1 ≤ n ∧ n ≤ 8 ∧ s.storeWork = none
    (n < 1 ∨ 8 < n → run = .next (answered tag 67 .range [] t)) ∧
    (1 ≤ n → n ≤ 8 → s.storeWork ≠ none → run = .next (answered tag 67 .busy [] t)) ∧
    (free → ¬ valid → run = .next (answered tag 67 .invalidImage [] t)) ∧
    (free → valid → 4 ≤ n → s.run ≠ none → run = .next (answered tag 67 .busy [] t)) ∧
    (free → valid → 5 ≤ n → s.run = none → s.window ≠ none → run = .next (answered tag 67 .edit [] t)) ∧
    (free → valid → n = 4 → s.run = none → fixed → run = .next (answered tag 67 .fixed [] t)) ∧
    (∀ c, s.storeWork = none → n = 1 → s.store.settings = some c →
      run = .next (answered tag 67 .done [] { t with settings := c })) ∧
    (∀ c, s.storeWork = none → n = 2 → s.store.profiles = some c → ∃ slots : Vector Slot 64,
      run = .next (answered tag 67 .done [] { t with profiles := c.profiles, curves := c.curves, slots := slots }) ∧
      ∀ i : SlotNo, slots[i] = s.slots[i].map resetTracker) ∧
    (∀ stored : Vector (Option SlotNo) 128, s.storeWork = none → n = 3 → s.store.slotMap = some stored → ∃ slots : Vector Slot 64,
      run = .next (answered tag 67 .done [] { t with slotMap := stored, slots := slots }) ∧
      ∀ i : SlotNo,
        ((∃ k : Fin 128, stored[k] ≠ s.slotMap[k] ∧ (stored[k] = some i ∨ s.slotMap[k] = some i)) →
          slots[i] = s.slots[i].map resetTracker) ∧
        ((∀ k : Fin 128, stored[k] = s.slotMap[k] ∨ (stored[k] ≠ some i ∧ s.slotMap[k] ≠ some i)) →
          slots[i] = s.slots[i])) ∧
    (∀ c, s.storeWork = none → n = 4 → s.store.bank = some c → s.run = none → ¬ fixed →
      run = .next (answered tag 67 .done [] { t with
        bank := c
        places := Vector.replicate 64 Place.empty
        records := Vector.replicate 8 StringRecord.initial })) ∧
    (∀ (g : GradeImage) (rows : GradeTable), s.storeWork = none → n = g.val + 5 → s.store.grades[g] = some rows →
      s.run = none → s.window = none →
      run = .next (answered tag 67 .done [] ((List.finRange 64).foldl (fun u i => evaluateSlot i u)
        { t with rows := rows, origin := some g, modified := false })))

/-- CERTIFY by the order of R171, every refusal clearing the latch; accepted, the store is busy, and the completion sets
the certified mark, clears the latch and requests a STORE report. -/
def Obligations.CertifyAndCompletion : Prop :=
  ∀ (tag image : Byte) (s t : State),
    let n := image.toNat
    let latchless : State := { t with latch := false }
    (Heard tag 68 [image] s t →
      (s.latch = false → exec (.certify tag [image]) s = .next (answered tag 68 .notEnabled [] latchless)) ∧
      (s.latch = true → n = 0 → exec (.certify tag [image]) s = .next (answered tag 68 .locked [] latchless)) ∧
      (s.latch = true → n ≠ 0 → (n < 5 ∨ 8 < n) →
        exec (.certify tag [image]) s = .next (answered tag 68 .range [] latchless)) ∧
      (∀ g : GradeImage, s.latch = true → n = g.val + 5 →
        (s.storeWork ≠ none → exec (.certify tag [image]) s = .next (answered tag 68 .busy [] latchless)) ∧
        (s.storeWork = none → s.store.grades[g] = none →
          exec (.certify tag [image]) s = .next (answered tag 68 .invalidImage [] latchless)) ∧
        (s.storeWork = none → s.store.grades[g] ≠ none →
          exec (.certify tag [image]) s =
            .next (answered tag 68 .done [] { t with storeWork := some (.certify g) })))) ∧
    (∀ g, s.storeWork = some (.certify g) →
      exec .certifyCompletion s = .next (startPorts (requestReport (.store .certify (g.val + 5))
        { s with
          store := { s.store with certified := s.store.certified.set g true }
          storeWork := none
          latch := false })))

/-! ## Invariants that every step keeps -/

/-- No step takes a queue, a count or the engine address out of its bounds, or queues two reports of one kind and slot
(R143, R144, R146, R147, R150, R161, R164). -/
def Obligations.QueuesStayBounded : Prop :=
  ∀ s t : State, QueuesBounded s → step s = .next t → QueuesBounded t

/-- At most one planning run exists, and while one exists the edit window is closed (R116, R87): every step keeps it. -/
def Obligations.RunAndWindowStayApart : Prop :=
  ∀ s t : State, RunWindowApart s → step s = .next t → RunWindowApart t

/-- A slot number is named by at most one entry of the slot map (R16): every step keeps it, in the working map, in the
image and in a save in progress. -/
def Obligations.SlotMapsStayInjective : Prop :=
  ∀ s t : State, SlotMapsInjective s → step s = .next t → SlotMapsInjective t

/-- While the working grade table is certified, its rows equal those of its image (R85), by an invariant that every step
keeps. -/
def Obligations.CertifiedTableHoldsImage : Prop :=
  (∀ s t : State, CertifiedSound s → step s = .next t → CertifiedSound t) ∧
  (∀ s : State, CertifiedSound s → tableCertified s = true →
    ∃ g, s.origin = some g ∧ s.store.certified[g] = true ∧ s.store.grades[g] = some s.rows)

/-- A certified grade image keeps its content and its certified mark through every step (R171). -/
def Obligations.CertifiedImageKept : Prop :=
  ∀ (s t : State) (g : GradeImage), CertifiedSound s → step s = .next t → s.store.certified[g] = true →
    t.store.certified[g] = true ∧ t.store.grades[g] = s.store.grades[g]

/-- Every figure the engine holds stays in its range, and a step list holds at most four results (R50, R65, R15): every
step keeps it. -/
def Obligations.FiguresStayInRange : Prop :=
  ∀ s t : State, FiguresInRange s → step s = .next t → FiguresInRange t

/-- Places, slots, string records and the run in progress stay consistent through every step: a slot in at most one
place, an INSTALLED slot in a fixed place and in no other, a slot in a non-fixed place GRADED with a grade in its
string's mask, the alarm exactly on a fixed place with a QUARANTINED slot, the places of a position filled and fixed
together, a PLANNED string filled (R99, R100, R104, R110, R96, R125). -/
def Obligations.PlacesStayConsistent : Prop :=
  ∀ s t : State, PlacesSound s → step s = .next t → PlacesSound t
end

