-- ==== Sys2Proof/Laws/State.lean ====
section
/-! SUPPORT. The fields of the state after each plain update, so that no proof unfolds a record update. -/

namespace Sys2Proof.Machine

/-- Every field after letting time pass. -/
@[simp] theorem advance_fields (e : Nat) (s : State) :
    (advance e s).pending = s.pending ∧ (advance e s).engine = s.engine ∧
    (advance e s).restartCause = s.restartCause ∧ (advance e s).foundValid = s.foundValid ∧
    (advance e s).installResult = s.installResult ∧ (advance e s).engineTime = s.engineTime + e ∧
    (advance e s).resetN = s.resetN ∧ (advance e s).adrPins = s.adrPins ∧
    (advance e s).engineAddress = s.engineAddress ∧ (advance e s).addressDefaulted = s.addressDefaulted ∧
    (advance e s).upReceiving = s.upReceiving ∧ (advance e s).dnReceiving = s.dnReceiving ∧
    (advance e s).upQueue = s.upQueue ∧ (advance e s).dnQueue = s.dnQueue ∧ (advance e s).upTx = s.upTx ∧
    (advance e s).dnTx = s.dnTx ∧ (advance e s).arbiterCount = s.arbiterCount ∧
    (advance e s).reportCount = s.reportCount ∧ (advance e s).patternCount = s.patternCount ∧
    (advance e s).lastBreakEnd = s.lastBreakEnd ∧ (advance e s).repeats = s.repeats ∧
    (advance e s).directiveQueue = s.directiveQueue ∧ (advance e s).answer = s.answer ∧
    (advance e s).takingSuspended = s.takingSuspended ∧ (advance e s).pointer = s.pointer ∧
    (advance e s).fieldMask = s.fieldMask ∧ (advance e s).purgeEnable = s.purgeEnable ∧
    (advance e s).window = s.window ∧ (advance e s).reports = s.reports ∧ (advance e s).causeFlags = s.causeFlags ∧
    (advance e s).reportMask = s.reportMask ∧ (advance e s).counters = s.counters ∧ (advance e s).nodes = s.nodes ∧
    (advance e s).slotMap = s.slotMap ∧ (advance e s).profiles = s.profiles ∧ (advance e s).curves = s.curves ∧
    (advance e s).rows = s.rows ∧ (advance e s).origin = s.origin ∧ (advance e s).modified = s.modified ∧
    (advance e s).slots = s.slots ∧ (advance e s).bank = s.bank ∧ (advance e s).places = s.places ∧
    (advance e s).records = s.records ∧ (advance e s).run = s.run ∧ (advance e s).store = s.store ∧
    (advance e s).latch = s.latch ∧ (advance e s).storeWork = s.storeWork ∧ (advance e s).settings = s.settings :=
  ⟨rfl, rfl, rfl, rfl, rfl, rfl, rfl, rfl, rfl, rfl, rfl, rfl, rfl, rfl, rfl, rfl, rfl, rfl, rfl, rfl, rfl, rfl, rfl,
    rfl, rfl, rfl, rfl, rfl, rfl, rfl, rfl, rfl, rfl, rfl, rfl, rfl, rfl, rfl, rfl, rfl, rfl, rfl, rfl, rfl, rfl,
    rfl, rfl, rfl⟩

/-- Every field after putting a record in a slot. -/
@[simp] theorem setSlot_fields (i : SlotNo) (v : Slot) (s : State) :
    (setSlot i v s).pending = s.pending ∧ (setSlot i v s).engine = s.engine ∧
    (setSlot i v s).restartCause = s.restartCause ∧ (setSlot i v s).foundValid = s.foundValid ∧
    (setSlot i v s).installResult = s.installResult ∧ (setSlot i v s).engineTime = s.engineTime ∧
    (setSlot i v s).resetN = s.resetN ∧ (setSlot i v s).adrPins = s.adrPins ∧
    (setSlot i v s).engineAddress = s.engineAddress ∧ (setSlot i v s).addressDefaulted = s.addressDefaulted ∧
    (setSlot i v s).upReceiving = s.upReceiving ∧ (setSlot i v s).dnReceiving = s.dnReceiving ∧
    (setSlot i v s).upQueue = s.upQueue ∧ (setSlot i v s).dnQueue = s.dnQueue ∧ (setSlot i v s).upTx = s.upTx ∧
    (setSlot i v s).dnTx = s.dnTx ∧ (setSlot i v s).arbiterCount = s.arbiterCount ∧
    (setSlot i v s).reportCount = s.reportCount ∧ (setSlot i v s).patternCount = s.patternCount ∧
    (setSlot i v s).lastBreakEnd = s.lastBreakEnd ∧ (setSlot i v s).repeats = s.repeats ∧
    (setSlot i v s).directiveQueue = s.directiveQueue ∧ (setSlot i v s).answer = s.answer ∧
    (setSlot i v s).takingSuspended = s.takingSuspended ∧ (setSlot i v s).pointer = s.pointer ∧
    (setSlot i v s).fieldMask = s.fieldMask ∧ (setSlot i v s).purgeEnable = s.purgeEnable ∧
    (setSlot i v s).window = s.window ∧ (setSlot i v s).reports = s.reports ∧
    (setSlot i v s).causeFlags = s.causeFlags ∧ (setSlot i v s).reportMask = s.reportMask ∧
    (setSlot i v s).counters = s.counters ∧ (setSlot i v s).nodes = s.nodes ∧ (setSlot i v s).slotMap = s.slotMap ∧
    (setSlot i v s).profiles = s.profiles ∧ (setSlot i v s).curves = s.curves ∧ (setSlot i v s).rows = s.rows ∧
    (setSlot i v s).origin = s.origin ∧ (setSlot i v s).modified = s.modified ∧
    (setSlot i v s).slots = s.slots.set i v ∧ (setSlot i v s).bank = s.bank ∧ (setSlot i v s).places = s.places ∧
    (setSlot i v s).records = s.records ∧ (setSlot i v s).run = s.run ∧ (setSlot i v s).store = s.store ∧
    (setSlot i v s).latch = s.latch ∧ (setSlot i v s).storeWork = s.storeWork ∧
    (setSlot i v s).settings = s.settings :=
  ⟨rfl, rfl, rfl, rfl, rfl, rfl, rfl, rfl, rfl, rfl, rfl, rfl, rfl, rfl, rfl, rfl, rfl, rfl, rfl, rfl, rfl, rfl, rfl,
    rfl, rfl, rfl, rfl, rfl, rfl, rfl, rfl, rfl, rfl, rfl, rfl, rfl, rfl, rfl, rfl, rfl, rfl, rfl, rfl, rfl, rfl,
    rfl, rfl, rfl⟩

/-- Every field after changing the record of one slot. -/
@[simp] theorem updateSlot_fields (i : SlotNo) (f : ModuleRecord → ModuleRecord) (s : State) :
    (updateSlot i f s).pending = s.pending ∧ (updateSlot i f s).engine = s.engine ∧
    (updateSlot i f s).restartCause = s.restartCause ∧ (updateSlot i f s).foundValid = s.foundValid ∧
    (updateSlot i f s).installResult = s.installResult ∧ (updateSlot i f s).engineTime = s.engineTime ∧
    (updateSlot i f s).resetN = s.resetN ∧ (updateSlot i f s).adrPins = s.adrPins ∧
    (updateSlot i f s).engineAddress = s.engineAddress ∧ (updateSlot i f s).addressDefaulted = s.addressDefaulted ∧
    (updateSlot i f s).upReceiving = s.upReceiving ∧ (updateSlot i f s).dnReceiving = s.dnReceiving ∧
    (updateSlot i f s).upQueue = s.upQueue ∧ (updateSlot i f s).dnQueue = s.dnQueue ∧
    (updateSlot i f s).upTx = s.upTx ∧ (updateSlot i f s).dnTx = s.dnTx ∧
    (updateSlot i f s).arbiterCount = s.arbiterCount ∧ (updateSlot i f s).reportCount = s.reportCount ∧
    (updateSlot i f s).patternCount = s.patternCount ∧ (updateSlot i f s).lastBreakEnd = s.lastBreakEnd ∧
    (updateSlot i f s).repeats = s.repeats ∧ (updateSlot i f s).directiveQueue = s.directiveQueue ∧
    (updateSlot i f s).answer = s.answer ∧ (updateSlot i f s).takingSuspended = s.takingSuspended ∧
    (updateSlot i f s).pointer = s.pointer ∧ (updateSlot i f s).fieldMask = s.fieldMask ∧
    (updateSlot i f s).purgeEnable = s.purgeEnable ∧ (updateSlot i f s).window = s.window ∧
    (updateSlot i f s).reports = s.reports ∧ (updateSlot i f s).causeFlags = s.causeFlags ∧
    (updateSlot i f s).reportMask = s.reportMask ∧ (updateSlot i f s).counters = s.counters ∧
    (updateSlot i f s).nodes = s.nodes ∧ (updateSlot i f s).slotMap = s.slotMap ∧
    (updateSlot i f s).profiles = s.profiles ∧ (updateSlot i f s).curves = s.curves ∧
    (updateSlot i f s).rows = s.rows ∧ (updateSlot i f s).origin = s.origin ∧
    (updateSlot i f s).modified = s.modified ∧ (updateSlot i f s).slots = s.slots.set i (s.slots[i].map f) ∧
    (updateSlot i f s).bank = s.bank ∧ (updateSlot i f s).places = s.places ∧
    (updateSlot i f s).records = s.records ∧ (updateSlot i f s).run = s.run ∧ (updateSlot i f s).store = s.store ∧
    (updateSlot i f s).latch = s.latch ∧ (updateSlot i f s).storeWork = s.storeWork ∧
    (updateSlot i f s).settings = s.settings :=
  ⟨rfl, rfl, rfl, rfl, rfl, rfl, rfl, rfl, rfl, rfl, rfl, rfl, rfl, rfl, rfl, rfl, rfl, rfl, rfl, rfl, rfl, rfl, rfl,
    rfl, rfl, rfl, rfl, rfl, rfl, rfl, rfl, rfl, rfl, rfl, rfl, rfl, rfl, rfl, rfl, rfl, rfl, rfl, rfl, rfl, rfl,
    rfl, rfl, rfl⟩

/-- Every field after changing the records of all slots. -/
@[simp] theorem mapSlots_fields (f : SlotNo → ModuleRecord → ModuleRecord) (s : State) :
    (mapSlots f s).pending = s.pending ∧ (mapSlots f s).engine = s.engine ∧
    (mapSlots f s).restartCause = s.restartCause ∧ (mapSlots f s).foundValid = s.foundValid ∧
    (mapSlots f s).installResult = s.installResult ∧ (mapSlots f s).engineTime = s.engineTime ∧
    (mapSlots f s).resetN = s.resetN ∧ (mapSlots f s).adrPins = s.adrPins ∧
    (mapSlots f s).engineAddress = s.engineAddress ∧ (mapSlots f s).addressDefaulted = s.addressDefaulted ∧
    (mapSlots f s).upReceiving = s.upReceiving ∧ (mapSlots f s).dnReceiving = s.dnReceiving ∧
    (mapSlots f s).upQueue = s.upQueue ∧ (mapSlots f s).dnQueue = s.dnQueue ∧ (mapSlots f s).upTx = s.upTx ∧
    (mapSlots f s).dnTx = s.dnTx ∧ (mapSlots f s).arbiterCount = s.arbiterCount ∧
    (mapSlots f s).reportCount = s.reportCount ∧ (mapSlots f s).patternCount = s.patternCount ∧
    (mapSlots f s).lastBreakEnd = s.lastBreakEnd ∧ (mapSlots f s).repeats = s.repeats ∧
    (mapSlots f s).directiveQueue = s.directiveQueue ∧ (mapSlots f s).answer = s.answer ∧
    (mapSlots f s).takingSuspended = s.takingSuspended ∧ (mapSlots f s).pointer = s.pointer ∧
    (mapSlots f s).fieldMask = s.fieldMask ∧ (mapSlots f s).purgeEnable = s.purgeEnable ∧
    (mapSlots f s).window = s.window ∧ (mapSlots f s).reports = s.reports ∧
    (mapSlots f s).causeFlags = s.causeFlags ∧ (mapSlots f s).reportMask = s.reportMask ∧
    (mapSlots f s).counters = s.counters ∧ (mapSlots f s).nodes = s.nodes ∧ (mapSlots f s).slotMap = s.slotMap ∧
    (mapSlots f s).profiles = s.profiles ∧ (mapSlots f s).curves = s.curves ∧ (mapSlots f s).rows = s.rows ∧
    (mapSlots f s).origin = s.origin ∧ (mapSlots f s).modified = s.modified ∧ (mapSlots f s).bank = s.bank ∧
    (mapSlots f s).places = s.places ∧ (mapSlots f s).records = s.records ∧ (mapSlots f s).run = s.run ∧
    (mapSlots f s).store = s.store ∧ (mapSlots f s).latch = s.latch ∧ (mapSlots f s).storeWork = s.storeWork ∧
    (mapSlots f s).settings = s.settings := by
  simp only [mapSlots, and_self]

/-- Every field after changing one place. -/
@[simp] theorem updatePlace_fields (p : PlaceNo) (f : Place → Place) (s : State) :
    (updatePlace p f s).pending = s.pending ∧ (updatePlace p f s).engine = s.engine ∧
    (updatePlace p f s).restartCause = s.restartCause ∧ (updatePlace p f s).foundValid = s.foundValid ∧
    (updatePlace p f s).installResult = s.installResult ∧ (updatePlace p f s).engineTime = s.engineTime ∧
    (updatePlace p f s).resetN = s.resetN ∧ (updatePlace p f s).adrPins = s.adrPins ∧
    (updatePlace p f s).engineAddress = s.engineAddress ∧ (updatePlace p f s).addressDefaulted = s.addressDefaulted ∧
    (updatePlace p f s).upReceiving = s.upReceiving ∧ (updatePlace p f s).dnReceiving = s.dnReceiving ∧
    (updatePlace p f s).upQueue = s.upQueue ∧ (updatePlace p f s).dnQueue = s.dnQueue ∧
    (updatePlace p f s).upTx = s.upTx ∧ (updatePlace p f s).dnTx = s.dnTx ∧
    (updatePlace p f s).arbiterCount = s.arbiterCount ∧ (updatePlace p f s).reportCount = s.reportCount ∧
    (updatePlace p f s).patternCount = s.patternCount ∧ (updatePlace p f s).lastBreakEnd = s.lastBreakEnd ∧
    (updatePlace p f s).repeats = s.repeats ∧ (updatePlace p f s).directiveQueue = s.directiveQueue ∧
    (updatePlace p f s).answer = s.answer ∧ (updatePlace p f s).takingSuspended = s.takingSuspended ∧
    (updatePlace p f s).pointer = s.pointer ∧ (updatePlace p f s).fieldMask = s.fieldMask ∧
    (updatePlace p f s).purgeEnable = s.purgeEnable ∧ (updatePlace p f s).window = s.window ∧
    (updatePlace p f s).reports = s.reports ∧ (updatePlace p f s).causeFlags = s.causeFlags ∧
    (updatePlace p f s).reportMask = s.reportMask ∧ (updatePlace p f s).counters = s.counters ∧
    (updatePlace p f s).nodes = s.nodes ∧ (updatePlace p f s).slotMap = s.slotMap ∧
    (updatePlace p f s).profiles = s.profiles ∧ (updatePlace p f s).curves = s.curves ∧
    (updatePlace p f s).rows = s.rows ∧ (updatePlace p f s).origin = s.origin ∧
    (updatePlace p f s).modified = s.modified ∧ (updatePlace p f s).slots = s.slots ∧
    (updatePlace p f s).bank = s.bank ∧ (updatePlace p f s).places = s.places.set p (f s.places[p]) ∧
    (updatePlace p f s).records = s.records ∧ (updatePlace p f s).run = s.run ∧ (updatePlace p f s).store = s.store ∧
    (updatePlace p f s).latch = s.latch ∧ (updatePlace p f s).storeWork = s.storeWork ∧
    (updatePlace p f s).settings = s.settings :=
  ⟨rfl, rfl, rfl, rfl, rfl, rfl, rfl, rfl, rfl, rfl, rfl, rfl, rfl, rfl, rfl, rfl, rfl, rfl, rfl, rfl, rfl, rfl, rfl,
    rfl, rfl, rfl, rfl, rfl, rfl, rfl, rfl, rfl, rfl, rfl, rfl, rfl, rfl, rfl, rfl, rfl, rfl, rfl, rfl, rfl, rfl,
    rfl, rfl, rfl⟩

/-- Every field after changing one string record. -/
@[simp] theorem updateRecord_fields (i : StringNo) (f : StringRecord → StringRecord) (s : State) :
    (updateRecord i f s).pending = s.pending ∧ (updateRecord i f s).engine = s.engine ∧
    (updateRecord i f s).restartCause = s.restartCause ∧ (updateRecord i f s).foundValid = s.foundValid ∧
    (updateRecord i f s).installResult = s.installResult ∧ (updateRecord i f s).engineTime = s.engineTime ∧
    (updateRecord i f s).resetN = s.resetN ∧ (updateRecord i f s).adrPins = s.adrPins ∧
    (updateRecord i f s).engineAddress = s.engineAddress ∧
    (updateRecord i f s).addressDefaulted = s.addressDefaulted ∧ (updateRecord i f s).upReceiving = s.upReceiving ∧
    (updateRecord i f s).dnReceiving = s.dnReceiving ∧ (updateRecord i f s).upQueue = s.upQueue ∧
    (updateRecord i f s).dnQueue = s.dnQueue ∧ (updateRecord i f s).upTx = s.upTx ∧
    (updateRecord i f s).dnTx = s.dnTx ∧ (updateRecord i f s).arbiterCount = s.arbiterCount ∧
    (updateRecord i f s).reportCount = s.reportCount ∧ (updateRecord i f s).patternCount = s.patternCount ∧
    (updateRecord i f s).lastBreakEnd = s.lastBreakEnd ∧ (updateRecord i f s).repeats = s.repeats ∧
    (updateRecord i f s).directiveQueue = s.directiveQueue ∧ (updateRecord i f s).answer = s.answer ∧
    (updateRecord i f s).takingSuspended = s.takingSuspended ∧ (updateRecord i f s).pointer = s.pointer ∧
    (updateRecord i f s).fieldMask = s.fieldMask ∧ (updateRecord i f s).purgeEnable = s.purgeEnable ∧
    (updateRecord i f s).window = s.window ∧ (updateRecord i f s).reports = s.reports ∧
    (updateRecord i f s).causeFlags = s.causeFlags ∧ (updateRecord i f s).reportMask = s.reportMask ∧
    (updateRecord i f s).counters = s.counters ∧ (updateRecord i f s).nodes = s.nodes ∧
    (updateRecord i f s).slotMap = s.slotMap ∧ (updateRecord i f s).profiles = s.profiles ∧
    (updateRecord i f s).curves = s.curves ∧ (updateRecord i f s).rows = s.rows ∧
    (updateRecord i f s).origin = s.origin ∧ (updateRecord i f s).modified = s.modified ∧
    (updateRecord i f s).slots = s.slots ∧ (updateRecord i f s).bank = s.bank ∧
    (updateRecord i f s).places = s.places ∧ (updateRecord i f s).records = s.records.set i (f s.records[i]) ∧
    (updateRecord i f s).run = s.run ∧ (updateRecord i f s).store = s.store ∧ (updateRecord i f s).latch = s.latch ∧
    (updateRecord i f s).storeWork = s.storeWork ∧ (updateRecord i f s).settings = s.settings :=
  ⟨rfl, rfl, rfl, rfl, rfl, rfl, rfl, rfl, rfl, rfl, rfl, rfl, rfl, rfl, rfl, rfl, rfl, rfl, rfl, rfl, rfl, rfl, rfl,
    rfl, rfl, rfl, rfl, rfl, rfl, rfl, rfl, rfl, rfl, rfl, rfl, rfl, rfl, rfl, rfl, rfl, rfl, rfl, rfl, rfl, rfl,
    rfl, rfl, rfl⟩

/-- Every field after the reset of the plan. -/
@[simp] theorem resetPlan_fields (s : State) :
    (resetPlan s).pending = s.pending ∧ (resetPlan s).engine = s.engine ∧
    (resetPlan s).restartCause = s.restartCause ∧ (resetPlan s).foundValid = s.foundValid ∧
    (resetPlan s).installResult = s.installResult ∧ (resetPlan s).engineTime = s.engineTime ∧
    (resetPlan s).resetN = s.resetN ∧ (resetPlan s).adrPins = s.adrPins ∧
    (resetPlan s).engineAddress = s.engineAddress ∧ (resetPlan s).addressDefaulted = s.addressDefaulted ∧
    (resetPlan s).upReceiving = s.upReceiving ∧ (resetPlan s).dnReceiving = s.dnReceiving ∧
    (resetPlan s).upQueue = s.upQueue ∧ (resetPlan s).dnQueue = s.dnQueue ∧ (resetPlan s).upTx = s.upTx ∧
    (resetPlan s).dnTx = s.dnTx ∧ (resetPlan s).arbiterCount = s.arbiterCount ∧
    (resetPlan s).reportCount = s.reportCount ∧ (resetPlan s).patternCount = s.patternCount ∧
    (resetPlan s).lastBreakEnd = s.lastBreakEnd ∧ (resetPlan s).repeats = s.repeats ∧
    (resetPlan s).directiveQueue = s.directiveQueue ∧ (resetPlan s).answer = s.answer ∧
    (resetPlan s).takingSuspended = s.takingSuspended ∧ (resetPlan s).pointer = s.pointer ∧
    (resetPlan s).fieldMask = s.fieldMask ∧ (resetPlan s).purgeEnable = s.purgeEnable ∧
    (resetPlan s).window = s.window ∧ (resetPlan s).reports = s.reports ∧ (resetPlan s).causeFlags = s.causeFlags ∧
    (resetPlan s).reportMask = s.reportMask ∧ (resetPlan s).counters = s.counters ∧ (resetPlan s).nodes = s.nodes ∧
    (resetPlan s).slotMap = s.slotMap ∧ (resetPlan s).profiles = s.profiles ∧ (resetPlan s).curves = s.curves ∧
    (resetPlan s).rows = s.rows ∧ (resetPlan s).origin = s.origin ∧ (resetPlan s).modified = s.modified ∧
    (resetPlan s).slots = s.slots ∧ (resetPlan s).bank = s.bank ∧
    (resetPlan s).places = Vector.replicate 64 Place.empty ∧
    (resetPlan s).records = Vector.replicate 8 StringRecord.initial ∧ (resetPlan s).run = s.run ∧
    (resetPlan s).store = s.store ∧ (resetPlan s).latch = s.latch ∧ (resetPlan s).storeWork = s.storeWork ∧
    (resetPlan s).settings = s.settings :=
  ⟨rfl, rfl, rfl, rfl, rfl, rfl, rfl, rfl, rfl, rfl, rfl, rfl, rfl, rfl, rfl, rfl, rfl, rfl, rfl, rfl, rfl, rfl, rfl,
    rfl, rfl, rfl, rfl, rfl, rfl, rfl, rfl, rfl, rfl, rfl, rfl, rfl, rfl, rfl, rfl, rfl, rfl, rfl, rfl, rfl, rfl,
    rfl, rfl, rfl⟩

/-- Every field after removing the reports of a slot. -/
@[simp] theorem removeReports_fields (i : SlotNo) (s : State) :
    (removeReports i s).pending = s.pending ∧ (removeReports i s).engine = s.engine ∧
    (removeReports i s).restartCause = s.restartCause ∧ (removeReports i s).foundValid = s.foundValid ∧
    (removeReports i s).installResult = s.installResult ∧ (removeReports i s).engineTime = s.engineTime ∧
    (removeReports i s).resetN = s.resetN ∧ (removeReports i s).adrPins = s.adrPins ∧
    (removeReports i s).engineAddress = s.engineAddress ∧ (removeReports i s).addressDefaulted = s.addressDefaulted ∧
    (removeReports i s).upReceiving = s.upReceiving ∧ (removeReports i s).dnReceiving = s.dnReceiving ∧
    (removeReports i s).upQueue = s.upQueue ∧ (removeReports i s).dnQueue = s.dnQueue ∧
    (removeReports i s).upTx = s.upTx ∧ (removeReports i s).dnTx = s.dnTx ∧
    (removeReports i s).arbiterCount = s.arbiterCount ∧ (removeReports i s).reportCount = s.reportCount ∧
    (removeReports i s).patternCount = s.patternCount ∧ (removeReports i s).lastBreakEnd = s.lastBreakEnd ∧
    (removeReports i s).repeats = s.repeats ∧ (removeReports i s).directiveQueue = s.directiveQueue ∧
    (removeReports i s).answer = s.answer ∧ (removeReports i s).takingSuspended = s.takingSuspended ∧
    (removeReports i s).pointer = s.pointer ∧ (removeReports i s).fieldMask = s.fieldMask ∧
    (removeReports i s).purgeEnable = s.purgeEnable ∧ (removeReports i s).window = s.window ∧
    (removeReports i s).reports = (s.reports.filter (fun r => r.slot != some i)) ∧
    (removeReports i s).causeFlags = s.causeFlags ∧ (removeReports i s).reportMask = s.reportMask ∧
    (removeReports i s).counters = s.counters ∧ (removeReports i s).nodes = s.nodes ∧
    (removeReports i s).slotMap = s.slotMap ∧ (removeReports i s).profiles = s.profiles ∧
    (removeReports i s).curves = s.curves ∧ (removeReports i s).rows = s.rows ∧
    (removeReports i s).origin = s.origin ∧ (removeReports i s).modified = s.modified ∧
    (removeReports i s).slots = s.slots ∧ (removeReports i s).bank = s.bank ∧ (removeReports i s).places = s.places ∧
    (removeReports i s).records = s.records ∧ (removeReports i s).run = s.run ∧ (removeReports i s).store = s.store ∧
    (removeReports i s).latch = s.latch ∧ (removeReports i s).storeWork = s.storeWork ∧
    (removeReports i s).settings = s.settings :=
  ⟨rfl, rfl, rfl, rfl, rfl, rfl, rfl, rfl, rfl, rfl, rfl, rfl, rfl, rfl, rfl, rfl, rfl, rfl, rfl, rfl, rfl, rfl, rfl,
    rfl, rfl, rfl, rfl, rfl, rfl, rfl, rfl, rfl, rfl, rfl, rfl, rfl, rfl, rfl, rfl, rfl, rfl, rfl, rfl, rfl, rfl,
    rfl, rfl, rfl⟩

/-- Every field after disturbing the run. -/
@[simp] theorem disturb_fields (s : State) :
    (disturb s).pending = s.pending ∧ (disturb s).engine = s.engine ∧ (disturb s).restartCause = s.restartCause ∧
    (disturb s).foundValid = s.foundValid ∧ (disturb s).installResult = s.installResult ∧
    (disturb s).engineTime = s.engineTime ∧ (disturb s).resetN = s.resetN ∧ (disturb s).adrPins = s.adrPins ∧
    (disturb s).engineAddress = s.engineAddress ∧ (disturb s).addressDefaulted = s.addressDefaulted ∧
    (disturb s).upReceiving = s.upReceiving ∧ (disturb s).dnReceiving = s.dnReceiving ∧
    (disturb s).upQueue = s.upQueue ∧ (disturb s).dnQueue = s.dnQueue ∧ (disturb s).upTx = s.upTx ∧
    (disturb s).dnTx = s.dnTx ∧ (disturb s).arbiterCount = s.arbiterCount ∧ (disturb s).reportCount = s.reportCount ∧
    (disturb s).patternCount = s.patternCount ∧ (disturb s).lastBreakEnd = s.lastBreakEnd ∧
    (disturb s).repeats = s.repeats ∧ (disturb s).directiveQueue = s.directiveQueue ∧ (disturb s).answer = s.answer ∧
    (disturb s).takingSuspended = s.takingSuspended ∧ (disturb s).pointer = s.pointer ∧
    (disturb s).fieldMask = s.fieldMask ∧ (disturb s).purgeEnable = s.purgeEnable ∧ (disturb s).window = s.window ∧
    (disturb s).reports = s.reports ∧ (disturb s).causeFlags = s.causeFlags ∧ (disturb s).reportMask = s.reportMask ∧
    (disturb s).counters = s.counters ∧ (disturb s).nodes = s.nodes ∧ (disturb s).slotMap = s.slotMap ∧
    (disturb s).profiles = s.profiles ∧ (disturb s).curves = s.curves ∧ (disturb s).rows = s.rows ∧
    (disturb s).origin = s.origin ∧ (disturb s).modified = s.modified ∧ (disturb s).slots = s.slots ∧
    (disturb s).bank = s.bank ∧ (disturb s).places = s.places ∧ (disturb s).records = s.records ∧
    (disturb s).run = (s.run.map fun r => { r with disturbed := true }) ∧ (disturb s).store = s.store ∧
    (disturb s).latch = s.latch ∧ (disturb s).storeWork = s.storeWork ∧ (disturb s).settings = s.settings :=
  ⟨rfl, rfl, rfl, rfl, rfl, rfl, rfl, rfl, rfl, rfl, rfl, rfl, rfl, rfl, rfl, rfl, rfl, rfl, rfl, rfl, rfl, rfl, rfl,
    rfl, rfl, rfl, rfl, rfl, rfl, rfl, rfl, rfl, rfl, rfl, rfl, rfl, rfl, rfl, rfl, rfl, rfl, rfl, rfl, rfl, rfl,
    rfl, rfl, rfl⟩

/-- Every field after taking a directive. -/
@[simp] theorem consumeMarks_fields (s : State) :
    (consumeMarks s).pending = s.pending ∧ (consumeMarks s).engine = s.engine ∧
    (consumeMarks s).restartCause = s.restartCause ∧ (consumeMarks s).foundValid = s.foundValid ∧
    (consumeMarks s).installResult = s.installResult ∧ (consumeMarks s).engineTime = s.engineTime ∧
    (consumeMarks s).resetN = s.resetN ∧ (consumeMarks s).adrPins = s.adrPins ∧
    (consumeMarks s).engineAddress = s.engineAddress ∧ (consumeMarks s).addressDefaulted = s.addressDefaulted ∧
    (consumeMarks s).upReceiving = s.upReceiving ∧ (consumeMarks s).dnReceiving = s.dnReceiving ∧
    (consumeMarks s).upQueue = s.upQueue ∧ (consumeMarks s).dnQueue = s.dnQueue ∧ (consumeMarks s).upTx = s.upTx ∧
    (consumeMarks s).dnTx = s.dnTx ∧ (consumeMarks s).arbiterCount = s.arbiterCount ∧
    (consumeMarks s).reportCount = s.reportCount ∧ (consumeMarks s).patternCount = s.patternCount ∧
    (consumeMarks s).lastBreakEnd = s.lastBreakEnd ∧ (consumeMarks s).repeats = s.repeats ∧
    (consumeMarks s).directiveQueue = s.directiveQueue ∧ (consumeMarks s).answer = s.answer ∧
    (consumeMarks s).takingSuspended = s.takingSuspended ∧ (consumeMarks s).pointer = s.pointer ∧
    (consumeMarks s).fieldMask = none ∧ (consumeMarks s).purgeEnable = false ∧ (consumeMarks s).window = s.window ∧
    (consumeMarks s).reports = s.reports ∧ (consumeMarks s).causeFlags = s.causeFlags ∧
    (consumeMarks s).reportMask = s.reportMask ∧ (consumeMarks s).counters = s.counters ∧
    (consumeMarks s).nodes = s.nodes ∧ (consumeMarks s).slotMap = s.slotMap ∧
    (consumeMarks s).profiles = s.profiles ∧ (consumeMarks s).curves = s.curves ∧ (consumeMarks s).rows = s.rows ∧
    (consumeMarks s).origin = s.origin ∧ (consumeMarks s).modified = s.modified ∧ (consumeMarks s).slots = s.slots ∧
    (consumeMarks s).bank = s.bank ∧ (consumeMarks s).places = s.places ∧ (consumeMarks s).records = s.records ∧
    (consumeMarks s).run = s.run ∧ (consumeMarks s).store = s.store ∧ (consumeMarks s).latch = s.latch ∧
    (consumeMarks s).storeWork = s.storeWork ∧ (consumeMarks s).settings = s.settings :=
  ⟨rfl, rfl, rfl, rfl, rfl, rfl, rfl, rfl, rfl, rfl, rfl, rfl, rfl, rfl, rfl, rfl, rfl, rfl, rfl, rfl, rfl, rfl, rfl,
    rfl, rfl, rfl, rfl, rfl, rfl, rfl, rfl, rfl, rfl, rfl, rfl, rfl, rfl, rfl, rfl, rfl, rfl, rfl, rfl, rfl, rfl,
    rfl, rfl, rfl⟩

/-- Every field after placing an answer. -/
@[simp] theorem placeAnswer_fields (tag code : Byte) (r : Reply State) :
    (placeAnswer tag code r).pending = r.state.pending ∧ (placeAnswer tag code r).engine = r.state.engine ∧
    (placeAnswer tag code r).restartCause = r.state.restartCause ∧
    (placeAnswer tag code r).foundValid = r.state.foundValid ∧
    (placeAnswer tag code r).installResult = r.state.installResult ∧
    (placeAnswer tag code r).engineTime = r.state.engineTime ∧ (placeAnswer tag code r).resetN = r.state.resetN ∧
    (placeAnswer tag code r).adrPins = r.state.adrPins ∧
    (placeAnswer tag code r).engineAddress = r.state.engineAddress ∧
    (placeAnswer tag code r).addressDefaulted = r.state.addressDefaulted ∧
    (placeAnswer tag code r).upReceiving = r.state.upReceiving ∧
    (placeAnswer tag code r).dnReceiving = r.state.dnReceiving ∧ (placeAnswer tag code r).upQueue = r.state.upQueue ∧
    (placeAnswer tag code r).dnQueue = r.state.dnQueue ∧ (placeAnswer tag code r).upTx = r.state.upTx ∧
    (placeAnswer tag code r).dnTx = r.state.dnTx ∧ (placeAnswer tag code r).arbiterCount = r.state.arbiterCount ∧
    (placeAnswer tag code r).reportCount = r.state.reportCount ∧
    (placeAnswer tag code r).patternCount = r.state.patternCount ∧
    (placeAnswer tag code r).lastBreakEnd = r.state.lastBreakEnd ∧
    (placeAnswer tag code r).repeats = r.state.repeats ∧
    (placeAnswer tag code r).directiveQueue = r.state.directiveQueue ∧
    (placeAnswer tag code r).answer = some { tag := tag, code := code, outcome := r.outcome, data := r.data } ∧
    (placeAnswer tag code r).takingSuspended = r.state.takingSuspended ∧
    (placeAnswer tag code r).pointer = r.state.pointer ∧ (placeAnswer tag code r).fieldMask = r.state.fieldMask ∧
    (placeAnswer tag code r).purgeEnable = r.state.purgeEnable ∧ (placeAnswer tag code r).window = r.state.window ∧
    (placeAnswer tag code r).reports = r.state.reports ∧ (placeAnswer tag code r).causeFlags = r.state.causeFlags ∧
    (placeAnswer tag code r).reportMask = r.state.reportMask ∧ (placeAnswer tag code r).counters = r.state.counters ∧
    (placeAnswer tag code r).nodes = r.state.nodes ∧ (placeAnswer tag code r).slotMap = r.state.slotMap ∧
    (placeAnswer tag code r).profiles = r.state.profiles ∧ (placeAnswer tag code r).curves = r.state.curves ∧
    (placeAnswer tag code r).rows = r.state.rows ∧ (placeAnswer tag code r).origin = r.state.origin ∧
    (placeAnswer tag code r).modified = r.state.modified ∧ (placeAnswer tag code r).slots = r.state.slots ∧
    (placeAnswer tag code r).bank = r.state.bank ∧ (placeAnswer tag code r).places = r.state.places ∧
    (placeAnswer tag code r).records = r.state.records ∧ (placeAnswer tag code r).run = r.state.run ∧
    (placeAnswer tag code r).store = r.state.store ∧ (placeAnswer tag code r).latch = r.state.latch ∧
    (placeAnswer tag code r).storeWork = r.state.storeWork ∧ (placeAnswer tag code r).settings = r.state.settings :=
  ⟨rfl, rfl, rfl, rfl, rfl, rfl, rfl, rfl, rfl, rfl, rfl, rfl, rfl, rfl, rfl, rfl, rfl, rfl, rfl, rfl, rfl, rfl, rfl,
    rfl, rfl, rfl, rfl, rfl, rfl, rfl, rfl, rfl, rfl, rfl, rfl, rfl, rfl, rfl, rfl, rfl, rfl, rfl, rfl, rfl, rfl,
    rfl, rfl, rfl⟩

/-- Every field after sending an answer. -/
@[simp] theorem sendAnswer_fields (a : Answer) (s : State) :
    (sendAnswer a s).pending = s.pending ∧ (sendAnswer a s).engine = s.engine ∧
    (sendAnswer a s).restartCause = s.restartCause ∧ (sendAnswer a s).foundValid = s.foundValid ∧
    (sendAnswer a s).installResult = s.installResult ∧ (sendAnswer a s).engineTime = s.engineTime ∧
    (sendAnswer a s).resetN = s.resetN ∧ (sendAnswer a s).adrPins = s.adrPins ∧
    (sendAnswer a s).engineAddress = s.engineAddress ∧ (sendAnswer a s).addressDefaulted = s.addressDefaulted ∧
    (sendAnswer a s).upReceiving = s.upReceiving ∧ (sendAnswer a s).dnReceiving = s.dnReceiving ∧
    (sendAnswer a s).upQueue = s.upQueue ∧ (sendAnswer a s).dnQueue = s.dnQueue ∧
    (sendAnswer a s).upTx = some (.answer a (buildFrame kindAnswer s.engineAddress a.tag (answerPayload a))) ∧
    (sendAnswer a s).dnTx = s.dnTx ∧ (sendAnswer a s).arbiterCount = 0 ∧
    (sendAnswer a s).reportCount = s.reportCount ∧ (sendAnswer a s).patternCount = s.patternCount ∧
    (sendAnswer a s).lastBreakEnd = s.lastBreakEnd ∧ (sendAnswer a s).repeats = s.repeats ∧
    (sendAnswer a s).directiveQueue = s.directiveQueue ∧ (sendAnswer a s).answer = none ∧
    (sendAnswer a s).takingSuspended = s.takingSuspended ∧ (sendAnswer a s).pointer = s.pointer ∧
    (sendAnswer a s).fieldMask = s.fieldMask ∧ (sendAnswer a s).purgeEnable = s.purgeEnable ∧
    (sendAnswer a s).window = s.window ∧ (sendAnswer a s).reports = s.reports ∧
    (sendAnswer a s).causeFlags = s.causeFlags ∧ (sendAnswer a s).reportMask = s.reportMask ∧
    (sendAnswer a s).counters = s.counters ∧ (sendAnswer a s).nodes = s.nodes ∧
    (sendAnswer a s).slotMap = s.slotMap ∧ (sendAnswer a s).profiles = s.profiles ∧
    (sendAnswer a s).curves = s.curves ∧ (sendAnswer a s).rows = s.rows ∧ (sendAnswer a s).origin = s.origin ∧
    (sendAnswer a s).modified = s.modified ∧ (sendAnswer a s).slots = s.slots ∧ (sendAnswer a s).bank = s.bank ∧
    (sendAnswer a s).places = s.places ∧ (sendAnswer a s).records = s.records ∧ (sendAnswer a s).run = s.run ∧
    (sendAnswer a s).store = s.store ∧ (sendAnswer a s).latch = s.latch ∧ (sendAnswer a s).storeWork = s.storeWork ∧
    (sendAnswer a s).settings = s.settings :=
  ⟨rfl, rfl, rfl, rfl, rfl, rfl, rfl, rfl, rfl, rfl, rfl, rfl, rfl, rfl, rfl, rfl, rfl, rfl, rfl, rfl, rfl, rfl, rfl,
    rfl, rfl, rfl, rfl, rfl, rfl, rfl, rfl, rfl, rfl, rfl, rfl, rfl, rfl, rfl, rfl, rfl, rfl, rfl, rfl, rfl, rfl,
    rfl, rfl, rfl⟩

/-- Every field after sending a report. -/
@[simp] theorem sendReport_fields (r : Report) (s : State) :
    (sendReport r s).pending = s.pending ∧ (sendReport r s).engine = s.engine ∧
    (sendReport r s).restartCause = s.restartCause ∧ (sendReport r s).foundValid = s.foundValid ∧
    (sendReport r s).installResult = s.installResult ∧ (sendReport r s).engineTime = s.engineTime ∧
    (sendReport r s).resetN = s.resetN ∧ (sendReport r s).adrPins = s.adrPins ∧
    (sendReport r s).engineAddress = s.engineAddress ∧ (sendReport r s).addressDefaulted = s.addressDefaulted ∧
    (sendReport r s).upReceiving = s.upReceiving ∧ (sendReport r s).dnReceiving = s.dnReceiving ∧
    (sendReport r s).upQueue = s.upQueue ∧ (sendReport r s).dnQueue = s.dnQueue ∧
    (sendReport r s).upTx = some (.report r (buildFrame kindReport s.engineAddress (BitVec.ofNat 8 s.reportCount) (reportPayload r))) ∧
    (sendReport r s).dnTx = s.dnTx ∧ (sendReport r s).arbiterCount = 0 ∧
    (sendReport r s).reportCount = s.reportCount + 1 ∧ (sendReport r s).patternCount = s.patternCount ∧
    (sendReport r s).lastBreakEnd = s.lastBreakEnd ∧ (sendReport r s).repeats = s.repeats ∧
    (sendReport r s).directiveQueue = s.directiveQueue ∧ (sendReport r s).answer = s.answer ∧
    (sendReport r s).takingSuspended = s.takingSuspended ∧ (sendReport r s).pointer = s.pointer ∧
    (sendReport r s).fieldMask = s.fieldMask ∧ (sendReport r s).purgeEnable = s.purgeEnable ∧
    (sendReport r s).window = s.window ∧ (sendReport r s).reports = s.reports.tail ∧
    (sendReport r s).causeFlags = s.causeFlags ∧ (sendReport r s).reportMask = s.reportMask ∧
    (sendReport r s).counters = s.counters ∧ (sendReport r s).nodes = s.nodes ∧
    (sendReport r s).slotMap = s.slotMap ∧ (sendReport r s).profiles = s.profiles ∧
    (sendReport r s).curves = s.curves ∧ (sendReport r s).rows = s.rows ∧ (sendReport r s).origin = s.origin ∧
    (sendReport r s).modified = s.modified ∧ (sendReport r s).slots = s.slots ∧ (sendReport r s).bank = s.bank ∧
    (sendReport r s).places = s.places ∧ (sendReport r s).records = s.records ∧ (sendReport r s).run = s.run ∧
    (sendReport r s).store = s.store ∧ (sendReport r s).latch = s.latch ∧ (sendReport r s).storeWork = s.storeWork ∧
    (sendReport r s).settings = s.settings :=
  ⟨rfl, rfl, rfl, rfl, rfl, rfl, rfl, rfl, rfl, rfl, rfl, rfl, rfl, rfl, rfl, rfl, rfl, rfl, rfl, rfl, rfl, rfl, rfl,
    rfl, rfl, rfl, rfl, rfl, rfl, rfl, rfl, rfl, rfl, rfl, rfl, rfl, rfl, rfl, rfl, rfl, rfl, rfl, rfl, rfl, rfl,
    rfl, rfl, rfl⟩

/-- Every field after sending a forwarded frame. -/
@[simp] theorem sendForwarded_fields (f : Frame) (rest : List Frame) (s : State) :
    (sendForwarded f rest s).pending = s.pending ∧ (sendForwarded f rest s).engine = s.engine ∧
    (sendForwarded f rest s).restartCause = s.restartCause ∧ (sendForwarded f rest s).foundValid = s.foundValid ∧
    (sendForwarded f rest s).installResult = s.installResult ∧ (sendForwarded f rest s).engineTime = s.engineTime ∧
    (sendForwarded f rest s).resetN = s.resetN ∧ (sendForwarded f rest s).adrPins = s.adrPins ∧
    (sendForwarded f rest s).engineAddress = s.engineAddress ∧
    (sendForwarded f rest s).addressDefaulted = s.addressDefaulted ∧
    (sendForwarded f rest s).upReceiving = s.upReceiving ∧ (sendForwarded f rest s).dnReceiving = s.dnReceiving ∧
    (sendForwarded f rest s).upQueue = rest ∧ (sendForwarded f rest s).dnQueue = s.dnQueue ∧
    (sendForwarded f rest s).upTx = some (.forwarded f) ∧ (sendForwarded f rest s).dnTx = s.dnTx ∧
    (sendForwarded f rest s).arbiterCount = min (s.arbiterCount + 1) 2 ∧
    (sendForwarded f rest s).reportCount = s.reportCount ∧ (sendForwarded f rest s).patternCount = s.patternCount ∧
    (sendForwarded f rest s).lastBreakEnd = s.lastBreakEnd ∧ (sendForwarded f rest s).repeats = s.repeats ∧
    (sendForwarded f rest s).directiveQueue = s.directiveQueue ∧ (sendForwarded f rest s).answer = s.answer ∧
    (sendForwarded f rest s).takingSuspended = s.takingSuspended ∧ (sendForwarded f rest s).pointer = s.pointer ∧
    (sendForwarded f rest s).fieldMask = s.fieldMask ∧ (sendForwarded f rest s).purgeEnable = s.purgeEnable ∧
    (sendForwarded f rest s).window = s.window ∧ (sendForwarded f rest s).reports = s.reports ∧
    (sendForwarded f rest s).causeFlags = s.causeFlags ∧ (sendForwarded f rest s).reportMask = s.reportMask ∧
    (sendForwarded f rest s).counters = s.counters ∧ (sendForwarded f rest s).nodes = s.nodes ∧
    (sendForwarded f rest s).slotMap = s.slotMap ∧ (sendForwarded f rest s).profiles = s.profiles ∧
    (sendForwarded f rest s).curves = s.curves ∧ (sendForwarded f rest s).rows = s.rows ∧
    (sendForwarded f rest s).origin = s.origin ∧ (sendForwarded f rest s).modified = s.modified ∧
    (sendForwarded f rest s).slots = s.slots ∧ (sendForwarded f rest s).bank = s.bank ∧
    (sendForwarded f rest s).places = s.places ∧ (sendForwarded f rest s).records = s.records ∧
    (sendForwarded f rest s).run = s.run ∧ (sendForwarded f rest s).store = s.store ∧
    (sendForwarded f rest s).latch = s.latch ∧ (sendForwarded f rest s).storeWork = s.storeWork ∧
    (sendForwarded f rest s).settings = s.settings :=
  ⟨rfl, rfl, rfl, rfl, rfl, rfl, rfl, rfl, rfl, rfl, rfl, rfl, rfl, rfl, rfl, rfl, rfl, rfl, rfl, rfl, rfl, rfl, rfl,
    rfl, rfl, rfl, rfl, rfl, rfl, rfl, rfl, rfl, rfl, rfl, rfl, rfl, rfl, rfl, rfl, rfl, rfl, rfl, rfl, rfl, rfl,
    rfl, rfl, rfl⟩

/-- Every field after repeating a level. -/
@[simp] theorem repeatLevel_fields (pol : Polarity) (start stop idle : Nat) (s : State) :
    (repeatLevel pol start stop idle s).pending = s.pending ∧ (repeatLevel pol start stop idle s).engine = s.engine ∧
    (repeatLevel pol start stop idle s).restartCause = s.restartCause ∧
    (repeatLevel pol start stop idle s).foundValid = s.foundValid ∧
    (repeatLevel pol start stop idle s).installResult = s.installResult ∧
    (repeatLevel pol start stop idle s).engineTime = s.engineTime ∧
    (repeatLevel pol start stop idle s).resetN = s.resetN ∧ (repeatLevel pol start stop idle s).adrPins = s.adrPins ∧
    (repeatLevel pol start stop idle s).engineAddress = s.engineAddress ∧
    (repeatLevel pol start stop idle s).addressDefaulted = s.addressDefaulted ∧
    (repeatLevel pol start stop idle s).upReceiving = s.upReceiving ∧
    (repeatLevel pol start stop idle s).dnReceiving = s.dnReceiving ∧
    (repeatLevel pol start stop idle s).upQueue = s.upQueue ∧
    (repeatLevel pol start stop idle s).dnQueue = s.dnQueue ∧ (repeatLevel pol start stop idle s).upTx = s.upTx ∧
    (repeatLevel pol start stop idle s).dnTx = s.dnTx ∧
    (repeatLevel pol start stop idle s).arbiterCount = s.arbiterCount ∧
    (repeatLevel pol start stop idle s).reportCount = s.reportCount ∧
    (repeatLevel pol start stop idle s).patternCount = s.patternCount ∧
    (repeatLevel pol start stop idle s).lastBreakEnd = s.lastBreakEnd ∧
    (repeatLevel pol start stop idle s).repeats = s.repeats ++ [{ pol := pol, duration := stop - start, idle := idle }] ∧
    (repeatLevel pol start stop idle s).directiveQueue = s.directiveQueue ∧
    (repeatLevel pol start stop idle s).answer = s.answer ∧
    (repeatLevel pol start stop idle s).takingSuspended = s.takingSuspended ∧
    (repeatLevel pol start stop idle s).pointer = s.pointer ∧
    (repeatLevel pol start stop idle s).fieldMask = s.fieldMask ∧
    (repeatLevel pol start stop idle s).purgeEnable = s.purgeEnable ∧
    (repeatLevel pol start stop idle s).window = s.window ∧ (repeatLevel pol start stop idle s).reports = s.reports ∧
    (repeatLevel pol start stop idle s).causeFlags = s.causeFlags ∧
    (repeatLevel pol start stop idle s).reportMask = s.reportMask ∧
    (repeatLevel pol start stop idle s).counters = s.counters ∧ (repeatLevel pol start stop idle s).nodes = s.nodes ∧
    (repeatLevel pol start stop idle s).slotMap = s.slotMap ∧
    (repeatLevel pol start stop idle s).profiles = s.profiles ∧
    (repeatLevel pol start stop idle s).curves = s.curves ∧ (repeatLevel pol start stop idle s).rows = s.rows ∧
    (repeatLevel pol start stop idle s).origin = s.origin ∧
    (repeatLevel pol start stop idle s).modified = s.modified ∧ (repeatLevel pol start stop idle s).slots = s.slots ∧
    (repeatLevel pol start stop idle s).bank = s.bank ∧ (repeatLevel pol start stop idle s).places = s.places ∧
    (repeatLevel pol start stop idle s).records = s.records ∧ (repeatLevel pol start stop idle s).run = s.run ∧
    (repeatLevel pol start stop idle s).store = s.store ∧ (repeatLevel pol start stop idle s).latch = s.latch ∧
    (repeatLevel pol start stop idle s).storeWork = s.storeWork ∧
    (repeatLevel pol start stop idle s).settings = s.settings :=
  ⟨rfl, rfl, rfl, rfl, rfl, rfl, rfl, rfl, rfl, rfl, rfl, rfl, rfl, rfl, rfl, rfl, rfl, rfl, rfl, rfl, rfl, rfl, rfl,
    rfl, rfl, rfl, rfl, rfl, rfl, rfl, rfl, rfl, rfl, rfl, rfl, rfl, rfl, rfl, rfl, rfl, rfl, rfl, rfl, rfl, rfl,
    rfl, rfl, rfl⟩

/-- Every field after moving the table pointer. -/
@[simp] theorem advancePointer_fields (n : Nat) (s : State) :
    (advancePointer n s).pending = s.pending ∧ (advancePointer n s).engine = s.engine ∧
    (advancePointer n s).restartCause = s.restartCause ∧ (advancePointer n s).foundValid = s.foundValid ∧
    (advancePointer n s).installResult = s.installResult ∧ (advancePointer n s).engineTime = s.engineTime ∧
    (advancePointer n s).resetN = s.resetN ∧ (advancePointer n s).adrPins = s.adrPins ∧
    (advancePointer n s).engineAddress = s.engineAddress ∧
    (advancePointer n s).addressDefaulted = s.addressDefaulted ∧ (advancePointer n s).upReceiving = s.upReceiving ∧
    (advancePointer n s).dnReceiving = s.dnReceiving ∧ (advancePointer n s).upQueue = s.upQueue ∧
    (advancePointer n s).dnQueue = s.dnQueue ∧ (advancePointer n s).upTx = s.upTx ∧
    (advancePointer n s).dnTx = s.dnTx ∧ (advancePointer n s).arbiterCount = s.arbiterCount ∧
    (advancePointer n s).reportCount = s.reportCount ∧ (advancePointer n s).patternCount = s.patternCount ∧
    (advancePointer n s).lastBreakEnd = s.lastBreakEnd ∧ (advancePointer n s).repeats = s.repeats ∧
    (advancePointer n s).directiveQueue = s.directiveQueue ∧ (advancePointer n s).answer = s.answer ∧
    (advancePointer n s).takingSuspended = s.takingSuspended ∧
    (advancePointer n s).pointer = { s.pointer with index := Nat.repeat (nextIndex s.pointer.table) n s.pointer.index } ∧
    (advancePointer n s).fieldMask = s.fieldMask ∧ (advancePointer n s).purgeEnable = s.purgeEnable ∧
    (advancePointer n s).window = s.window ∧ (advancePointer n s).reports = s.reports ∧
    (advancePointer n s).causeFlags = s.causeFlags ∧ (advancePointer n s).reportMask = s.reportMask ∧
    (advancePointer n s).counters = s.counters ∧ (advancePointer n s).nodes = s.nodes ∧
    (advancePointer n s).slotMap = s.slotMap ∧ (advancePointer n s).profiles = s.profiles ∧
    (advancePointer n s).curves = s.curves ∧ (advancePointer n s).rows = s.rows ∧
    (advancePointer n s).origin = s.origin ∧ (advancePointer n s).modified = s.modified ∧
    (advancePointer n s).slots = s.slots ∧ (advancePointer n s).bank = s.bank ∧
    (advancePointer n s).places = s.places ∧ (advancePointer n s).records = s.records ∧
    (advancePointer n s).run = s.run ∧ (advancePointer n s).store = s.store ∧ (advancePointer n s).latch = s.latch ∧
    (advancePointer n s).storeWork = s.storeWork ∧ (advancePointer n s).settings = s.settings :=
  ⟨rfl, rfl, rfl, rfl, rfl, rfl, rfl, rfl, rfl, rfl, rfl, rfl, rfl, rfl, rfl, rfl, rfl, rfl, rfl, rfl, rfl, rfl, rfl,
    rfl, rfl, rfl, rfl, rfl, rfl, rfl, rfl, rfl, rfl, rfl, rfl, rfl, rfl, rfl, rfl, rfl, rfl, rfl, rfl, rfl, rfl,
    rfl, rfl, rfl⟩

/-- Every field after writing a grade row. -/
@[simp] theorem storeRow_fields (k : Nat) (r : GradeRow) (s : State) :
    (storeRow k r s).pending = s.pending ∧ (storeRow k r s).engine = s.engine ∧
    (storeRow k r s).restartCause = s.restartCause ∧ (storeRow k r s).foundValid = s.foundValid ∧
    (storeRow k r s).installResult = s.installResult ∧ (storeRow k r s).engineTime = s.engineTime ∧
    (storeRow k r s).resetN = s.resetN ∧ (storeRow k r s).adrPins = s.adrPins ∧
    (storeRow k r s).engineAddress = s.engineAddress ∧ (storeRow k r s).addressDefaulted = s.addressDefaulted ∧
    (storeRow k r s).upReceiving = s.upReceiving ∧ (storeRow k r s).dnReceiving = s.dnReceiving ∧
    (storeRow k r s).upQueue = s.upQueue ∧ (storeRow k r s).dnQueue = s.dnQueue ∧ (storeRow k r s).upTx = s.upTx ∧
    (storeRow k r s).dnTx = s.dnTx ∧ (storeRow k r s).arbiterCount = s.arbiterCount ∧
    (storeRow k r s).reportCount = s.reportCount ∧ (storeRow k r s).patternCount = s.patternCount ∧
    (storeRow k r s).lastBreakEnd = s.lastBreakEnd ∧ (storeRow k r s).repeats = s.repeats ∧
    (storeRow k r s).directiveQueue = s.directiveQueue ∧ (storeRow k r s).answer = s.answer ∧
    (storeRow k r s).takingSuspended = s.takingSuspended ∧ (storeRow k r s).pointer = s.pointer ∧
    (storeRow k r s).fieldMask = s.fieldMask ∧ (storeRow k r s).purgeEnable = s.purgeEnable ∧
    (storeRow k r s).window = (s.window.map fun w => { w with written := true }) ∧
    (storeRow k r s).reports = s.reports ∧ (storeRow k r s).causeFlags = s.causeFlags ∧
    (storeRow k r s).reportMask = s.reportMask ∧ (storeRow k r s).counters = s.counters ∧
    (storeRow k r s).nodes = s.nodes ∧ (storeRow k r s).slotMap = s.slotMap ∧
    (storeRow k r s).profiles = s.profiles ∧ (storeRow k r s).curves = s.curves ∧
    (storeRow k r s).rows = s.rows.setIfInBounds k r ∧ (storeRow k r s).origin = s.origin ∧
    (storeRow k r s).modified = s.modified ∧ (storeRow k r s).slots = s.slots ∧ (storeRow k r s).bank = s.bank ∧
    (storeRow k r s).places = s.places ∧ (storeRow k r s).records = s.records ∧ (storeRow k r s).run = s.run ∧
    (storeRow k r s).store = s.store ∧ (storeRow k r s).latch = s.latch ∧ (storeRow k r s).storeWork = s.storeWork ∧
    (storeRow k r s).settings = s.settings :=
  ⟨rfl, rfl, rfl, rfl, rfl, rfl, rfl, rfl, rfl, rfl, rfl, rfl, rfl, rfl, rfl, rfl, rfl, rfl, rfl, rfl, rfl, rfl, rfl,
    rfl, rfl, rfl, rfl, rfl, rfl, rfl, rfl, rfl, rfl, rfl, rfl, rfl, rfl, rfl, rfl, rfl, rfl, rfl, rfl, rfl, rfl,
    rfl, rfl, rfl⟩

/-- Every field after beginning a save. -/
@[simp] theorem beginSave_fields (c : SavedContent) (s : State) :
    (beginSave c s).pending = s.pending ∧ (beginSave c s).engine = s.engine ∧
    (beginSave c s).restartCause = s.restartCause ∧ (beginSave c s).foundValid = s.foundValid ∧
    (beginSave c s).installResult = s.installResult ∧ (beginSave c s).engineTime = s.engineTime ∧
    (beginSave c s).resetN = s.resetN ∧ (beginSave c s).adrPins = s.adrPins ∧
    (beginSave c s).engineAddress = s.engineAddress ∧ (beginSave c s).addressDefaulted = s.addressDefaulted ∧
    (beginSave c s).upReceiving = s.upReceiving ∧ (beginSave c s).dnReceiving = s.dnReceiving ∧
    (beginSave c s).upQueue = s.upQueue ∧ (beginSave c s).dnQueue = s.dnQueue ∧ (beginSave c s).upTx = s.upTx ∧
    (beginSave c s).dnTx = s.dnTx ∧ (beginSave c s).arbiterCount = s.arbiterCount ∧
    (beginSave c s).reportCount = s.reportCount ∧ (beginSave c s).patternCount = s.patternCount ∧
    (beginSave c s).lastBreakEnd = s.lastBreakEnd ∧ (beginSave c s).repeats = s.repeats ∧
    (beginSave c s).directiveQueue = s.directiveQueue ∧ (beginSave c s).answer = s.answer ∧
    (beginSave c s).takingSuspended = s.takingSuspended ∧ (beginSave c s).pointer = s.pointer ∧
    (beginSave c s).fieldMask = s.fieldMask ∧ (beginSave c s).purgeEnable = s.purgeEnable ∧
    (beginSave c s).window = s.window ∧ (beginSave c s).reports = s.reports ∧
    (beginSave c s).causeFlags = s.causeFlags ∧ (beginSave c s).reportMask = s.reportMask ∧
    (beginSave c s).counters = s.counters ∧ (beginSave c s).nodes = s.nodes ∧ (beginSave c s).slotMap = s.slotMap ∧
    (beginSave c s).profiles = s.profiles ∧ (beginSave c s).curves = s.curves ∧ (beginSave c s).rows = s.rows ∧
    (beginSave c s).origin = s.origin ∧ (beginSave c s).modified = s.modified ∧ (beginSave c s).slots = s.slots ∧
    (beginSave c s).bank = s.bank ∧ (beginSave c s).places = s.places ∧ (beginSave c s).records = s.records ∧
    (beginSave c s).run = s.run ∧ (beginSave c s).store = eraseImage c s.store ∧ (beginSave c s).latch = s.latch ∧
    (beginSave c s).storeWork = some (.save c) ∧ (beginSave c s).settings = s.settings :=
  ⟨rfl, rfl, rfl, rfl, rfl, rfl, rfl, rfl, rfl, rfl, rfl, rfl, rfl, rfl, rfl, rfl, rfl, rfl, rfl, rfl, rfl, rfl, rfl,
    rfl, rfl, rfl, rfl, rfl, rfl, rfl, rfl, rfl, rfl, rfl, rfl, rfl, rfl, rfl, rfl, rfl, rfl, rfl, rfl, rfl, rfl,
    rfl, rfl, rfl⟩

/-- Every field after counting a malformed frame. -/
@[simp] theorem countMalformed_fields (s : State) :
    (countMalformed s).pending = s.pending ∧ (countMalformed s).engine = s.engine ∧
    (countMalformed s).restartCause = s.restartCause ∧ (countMalformed s).foundValid = s.foundValid ∧
    (countMalformed s).installResult = s.installResult ∧ (countMalformed s).engineTime = s.engineTime ∧
    (countMalformed s).resetN = s.resetN ∧ (countMalformed s).adrPins = s.adrPins ∧
    (countMalformed s).engineAddress = s.engineAddress ∧ (countMalformed s).addressDefaulted = s.addressDefaulted ∧
    (countMalformed s).upReceiving = s.upReceiving ∧ (countMalformed s).dnReceiving = s.dnReceiving ∧
    (countMalformed s).upQueue = s.upQueue ∧ (countMalformed s).dnQueue = s.dnQueue ∧
    (countMalformed s).upTx = s.upTx ∧ (countMalformed s).dnTx = s.dnTx ∧
    (countMalformed s).arbiterCount = s.arbiterCount ∧ (countMalformed s).reportCount = s.reportCount ∧
    (countMalformed s).patternCount = s.patternCount ∧ (countMalformed s).lastBreakEnd = s.lastBreakEnd ∧
    (countMalformed s).repeats = s.repeats ∧ (countMalformed s).directiveQueue = s.directiveQueue ∧
    (countMalformed s).answer = s.answer ∧ (countMalformed s).takingSuspended = s.takingSuspended ∧
    (countMalformed s).pointer = s.pointer ∧ (countMalformed s).fieldMask = s.fieldMask ∧
    (countMalformed s).purgeEnable = s.purgeEnable ∧ (countMalformed s).window = s.window ∧
    (countMalformed s).reports = s.reports ∧ (countMalformed s).causeFlags = s.causeFlags ∧
    (countMalformed s).reportMask = s.reportMask ∧ (countMalformed s).counters = malformedCounted s.counters ∧
    (countMalformed s).nodes = s.nodes ∧ (countMalformed s).slotMap = s.slotMap ∧
    (countMalformed s).profiles = s.profiles ∧ (countMalformed s).curves = s.curves ∧
    (countMalformed s).rows = s.rows ∧ (countMalformed s).origin = s.origin ∧
    (countMalformed s).modified = s.modified ∧ (countMalformed s).slots = s.slots ∧
    (countMalformed s).bank = s.bank ∧ (countMalformed s).places = s.places ∧
    (countMalformed s).records = s.records ∧ (countMalformed s).run = s.run ∧ (countMalformed s).store = s.store ∧
    (countMalformed s).latch = s.latch ∧ (countMalformed s).storeWork = s.storeWork ∧
    (countMalformed s).settings = s.settings :=
  ⟨rfl, rfl, rfl, rfl, rfl, rfl, rfl, rfl, rfl, rfl, rfl, rfl, rfl, rfl, rfl, rfl, rfl, rfl, rfl, rfl, rfl, rfl, rfl,
    rfl, rfl, rfl, rfl, rfl, rfl, rfl, rfl, rfl, rfl, rfl, rfl, rfl, rfl, rfl, rfl, rfl, rfl, rfl, rfl, rfl, rfl,
    rfl, rfl, rfl⟩

/-- Every field after counting a bad check. -/
@[simp] theorem countBadCheck_fields (s : State) :
    (countBadCheck s).pending = s.pending ∧ (countBadCheck s).engine = s.engine ∧
    (countBadCheck s).restartCause = s.restartCause ∧ (countBadCheck s).foundValid = s.foundValid ∧
    (countBadCheck s).installResult = s.installResult ∧ (countBadCheck s).engineTime = s.engineTime ∧
    (countBadCheck s).resetN = s.resetN ∧ (countBadCheck s).adrPins = s.adrPins ∧
    (countBadCheck s).engineAddress = s.engineAddress ∧ (countBadCheck s).addressDefaulted = s.addressDefaulted ∧
    (countBadCheck s).upReceiving = s.upReceiving ∧ (countBadCheck s).dnReceiving = s.dnReceiving ∧
    (countBadCheck s).upQueue = s.upQueue ∧ (countBadCheck s).dnQueue = s.dnQueue ∧ (countBadCheck s).upTx = s.upTx ∧
    (countBadCheck s).dnTx = s.dnTx ∧ (countBadCheck s).arbiterCount = s.arbiterCount ∧
    (countBadCheck s).reportCount = s.reportCount ∧ (countBadCheck s).patternCount = s.patternCount ∧
    (countBadCheck s).lastBreakEnd = s.lastBreakEnd ∧ (countBadCheck s).repeats = s.repeats ∧
    (countBadCheck s).directiveQueue = s.directiveQueue ∧ (countBadCheck s).answer = s.answer ∧
    (countBadCheck s).takingSuspended = s.takingSuspended ∧ (countBadCheck s).pointer = s.pointer ∧
    (countBadCheck s).fieldMask = s.fieldMask ∧ (countBadCheck s).purgeEnable = s.purgeEnable ∧
    (countBadCheck s).window = s.window ∧ (countBadCheck s).reports = s.reports ∧
    (countBadCheck s).causeFlags = s.causeFlags ∧ (countBadCheck s).reportMask = s.reportMask ∧
    (countBadCheck s).counters = badCheckCounted s.counters ∧ (countBadCheck s).nodes = s.nodes ∧
    (countBadCheck s).slotMap = s.slotMap ∧ (countBadCheck s).profiles = s.profiles ∧
    (countBadCheck s).curves = s.curves ∧ (countBadCheck s).rows = s.rows ∧ (countBadCheck s).origin = s.origin ∧
    (countBadCheck s).modified = s.modified ∧ (countBadCheck s).slots = s.slots ∧ (countBadCheck s).bank = s.bank ∧
    (countBadCheck s).places = s.places ∧ (countBadCheck s).records = s.records ∧ (countBadCheck s).run = s.run ∧
    (countBadCheck s).store = s.store ∧ (countBadCheck s).latch = s.latch ∧
    (countBadCheck s).storeWork = s.storeWork ∧ (countBadCheck s).settings = s.settings :=
  ⟨rfl, rfl, rfl, rfl, rfl, rfl, rfl, rfl, rfl, rfl, rfl, rfl, rfl, rfl, rfl, rfl, rfl, rfl, rfl, rfl, rfl, rfl, rfl,
    rfl, rfl, rfl, rfl, rfl, rfl, rfl, rfl, rfl, rfl, rfl, rfl, rfl, rfl, rfl, rfl, rfl, rfl, rfl, rfl, rfl, rfl,
    rfl, rfl, rfl⟩

/-- Every field after counting an up overflow. -/
@[simp] theorem countUpOverflow_fields (s : State) :
    (countUpOverflow s).pending = s.pending ∧ (countUpOverflow s).engine = s.engine ∧
    (countUpOverflow s).restartCause = s.restartCause ∧ (countUpOverflow s).foundValid = s.foundValid ∧
    (countUpOverflow s).installResult = s.installResult ∧ (countUpOverflow s).engineTime = s.engineTime ∧
    (countUpOverflow s).resetN = s.resetN ∧ (countUpOverflow s).adrPins = s.adrPins ∧
    (countUpOverflow s).engineAddress = s.engineAddress ∧ (countUpOverflow s).addressDefaulted = s.addressDefaulted ∧
    (countUpOverflow s).upReceiving = s.upReceiving ∧ (countUpOverflow s).dnReceiving = s.dnReceiving ∧
    (countUpOverflow s).upQueue = s.upQueue ∧ (countUpOverflow s).dnQueue = s.dnQueue ∧
    (countUpOverflow s).upTx = s.upTx ∧ (countUpOverflow s).dnTx = s.dnTx ∧
    (countUpOverflow s).arbiterCount = s.arbiterCount ∧ (countUpOverflow s).reportCount = s.reportCount ∧
    (countUpOverflow s).patternCount = s.patternCount ∧ (countUpOverflow s).lastBreakEnd = s.lastBreakEnd ∧
    (countUpOverflow s).repeats = s.repeats ∧ (countUpOverflow s).directiveQueue = s.directiveQueue ∧
    (countUpOverflow s).answer = s.answer ∧ (countUpOverflow s).takingSuspended = s.takingSuspended ∧
    (countUpOverflow s).pointer = s.pointer ∧ (countUpOverflow s).fieldMask = s.fieldMask ∧
    (countUpOverflow s).purgeEnable = s.purgeEnable ∧ (countUpOverflow s).window = s.window ∧
    (countUpOverflow s).reports = s.reports ∧ (countUpOverflow s).causeFlags = s.causeFlags ∧
    (countUpOverflow s).reportMask = s.reportMask ∧
    (countUpOverflow s).counters = { s.counters with upOverflow := min (s.counters.upOverflow + 1) 65535 } ∧
    (countUpOverflow s).nodes = s.nodes ∧ (countUpOverflow s).slotMap = s.slotMap ∧
    (countUpOverflow s).profiles = s.profiles ∧ (countUpOverflow s).curves = s.curves ∧
    (countUpOverflow s).rows = s.rows ∧ (countUpOverflow s).origin = s.origin ∧
    (countUpOverflow s).modified = s.modified ∧ (countUpOverflow s).slots = s.slots ∧
    (countUpOverflow s).bank = s.bank ∧ (countUpOverflow s).places = s.places ∧
    (countUpOverflow s).records = s.records ∧ (countUpOverflow s).run = s.run ∧ (countUpOverflow s).store = s.store ∧
    (countUpOverflow s).latch = s.latch ∧ (countUpOverflow s).storeWork = s.storeWork ∧
    (countUpOverflow s).settings = s.settings :=
  ⟨rfl, rfl, rfl, rfl, rfl, rfl, rfl, rfl, rfl, rfl, rfl, rfl, rfl, rfl, rfl, rfl, rfl, rfl, rfl, rfl, rfl, rfl, rfl,
    rfl, rfl, rfl, rfl, rfl, rfl, rfl, rfl, rfl, rfl, rfl, rfl, rfl, rfl, rfl, rfl, rfl, rfl, rfl, rfl, rfl, rfl,
    rfl, rfl, rfl⟩

/-- Every field after counting a down overflow. -/
@[simp] theorem countDownOverflow_fields (s : State) :
    (countDownOverflow s).pending = s.pending ∧ (countDownOverflow s).engine = s.engine ∧
    (countDownOverflow s).restartCause = s.restartCause ∧ (countDownOverflow s).foundValid = s.foundValid ∧
    (countDownOverflow s).installResult = s.installResult ∧ (countDownOverflow s).engineTime = s.engineTime ∧
    (countDownOverflow s).resetN = s.resetN ∧ (countDownOverflow s).adrPins = s.adrPins ∧
    (countDownOverflow s).engineAddress = s.engineAddress ∧
    (countDownOverflow s).addressDefaulted = s.addressDefaulted ∧ (countDownOverflow s).upReceiving = s.upReceiving ∧
    (countDownOverflow s).dnReceiving = s.dnReceiving ∧ (countDownOverflow s).upQueue = s.upQueue ∧
    (countDownOverflow s).dnQueue = s.dnQueue ∧ (countDownOverflow s).upTx = s.upTx ∧
    (countDownOverflow s).dnTx = s.dnTx ∧ (countDownOverflow s).arbiterCount = s.arbiterCount ∧
    (countDownOverflow s).reportCount = s.reportCount ∧ (countDownOverflow s).patternCount = s.patternCount ∧
    (countDownOverflow s).lastBreakEnd = s.lastBreakEnd ∧ (countDownOverflow s).repeats = s.repeats ∧
    (countDownOverflow s).directiveQueue = s.directiveQueue ∧ (countDownOverflow s).answer = s.answer ∧
    (countDownOverflow s).takingSuspended = s.takingSuspended ∧ (countDownOverflow s).pointer = s.pointer ∧
    (countDownOverflow s).fieldMask = s.fieldMask ∧ (countDownOverflow s).purgeEnable = s.purgeEnable ∧
    (countDownOverflow s).window = s.window ∧ (countDownOverflow s).reports = s.reports ∧
    (countDownOverflow s).causeFlags = s.causeFlags ∧ (countDownOverflow s).reportMask = s.reportMask ∧
    (countDownOverflow s).counters = { s.counters with downOverflow := min (s.counters.downOverflow + 1) 65535 } ∧
    (countDownOverflow s).nodes = s.nodes ∧ (countDownOverflow s).slotMap = s.slotMap ∧
    (countDownOverflow s).profiles = s.profiles ∧ (countDownOverflow s).curves = s.curves ∧
    (countDownOverflow s).rows = s.rows ∧ (countDownOverflow s).origin = s.origin ∧
    (countDownOverflow s).modified = s.modified ∧ (countDownOverflow s).slots = s.slots ∧
    (countDownOverflow s).bank = s.bank ∧ (countDownOverflow s).places = s.places ∧
    (countDownOverflow s).records = s.records ∧ (countDownOverflow s).run = s.run ∧
    (countDownOverflow s).store = s.store ∧ (countDownOverflow s).latch = s.latch ∧
    (countDownOverflow s).storeWork = s.storeWork ∧ (countDownOverflow s).settings = s.settings :=
  ⟨rfl, rfl, rfl, rfl, rfl, rfl, rfl, rfl, rfl, rfl, rfl, rfl, rfl, rfl, rfl, rfl, rfl, rfl, rfl, rfl, rfl, rfl, rfl,
    rfl, rfl, rfl, rfl, rfl, rfl, rfl, rfl, rfl, rfl, rfl, rfl, rfl, rfl, rfl, rfl, rfl, rfl, rfl, rfl, rfl, rfl,
    rfl, rfl, rfl⟩

/-- Every field after counting a directive overflow. -/
@[simp] theorem countDirectiveOverflow_fields (s : State) :
    (countDirectiveOverflow s).pending = s.pending ∧ (countDirectiveOverflow s).engine = s.engine ∧
    (countDirectiveOverflow s).restartCause = s.restartCause ∧ (countDirectiveOverflow s).foundValid = s.foundValid ∧
    (countDirectiveOverflow s).installResult = s.installResult ∧
    (countDirectiveOverflow s).engineTime = s.engineTime ∧ (countDirectiveOverflow s).resetN = s.resetN ∧
    (countDirectiveOverflow s).adrPins = s.adrPins ∧ (countDirectiveOverflow s).engineAddress = s.engineAddress ∧
    (countDirectiveOverflow s).addressDefaulted = s.addressDefaulted ∧
    (countDirectiveOverflow s).upReceiving = s.upReceiving ∧ (countDirectiveOverflow s).dnReceiving = s.dnReceiving ∧
    (countDirectiveOverflow s).upQueue = s.upQueue ∧ (countDirectiveOverflow s).dnQueue = s.dnQueue ∧
    (countDirectiveOverflow s).upTx = s.upTx ∧ (countDirectiveOverflow s).dnTx = s.dnTx ∧
    (countDirectiveOverflow s).arbiterCount = s.arbiterCount ∧
    (countDirectiveOverflow s).reportCount = s.reportCount ∧
    (countDirectiveOverflow s).patternCount = s.patternCount ∧
    (countDirectiveOverflow s).lastBreakEnd = s.lastBreakEnd ∧ (countDirectiveOverflow s).repeats = s.repeats ∧
    (countDirectiveOverflow s).directiveQueue = s.directiveQueue ∧ (countDirectiveOverflow s).answer = s.answer ∧
    (countDirectiveOverflow s).takingSuspended = s.takingSuspended ∧ (countDirectiveOverflow s).pointer = s.pointer ∧
    (countDirectiveOverflow s).fieldMask = s.fieldMask ∧ (countDirectiveOverflow s).purgeEnable = s.purgeEnable ∧
    (countDirectiveOverflow s).window = s.window ∧ (countDirectiveOverflow s).reports = s.reports ∧
    (countDirectiveOverflow s).causeFlags = s.causeFlags ∧ (countDirectiveOverflow s).reportMask = s.reportMask ∧
    (countDirectiveOverflow s).counters = { s.counters with directiveOverflow := min (s.counters.directiveOverflow + 1) 65535 } ∧
    (countDirectiveOverflow s).nodes = s.nodes ∧ (countDirectiveOverflow s).slotMap = s.slotMap ∧
    (countDirectiveOverflow s).profiles = s.profiles ∧ (countDirectiveOverflow s).curves = s.curves ∧
    (countDirectiveOverflow s).rows = s.rows ∧ (countDirectiveOverflow s).origin = s.origin ∧
    (countDirectiveOverflow s).modified = s.modified ∧ (countDirectiveOverflow s).slots = s.slots ∧
    (countDirectiveOverflow s).bank = s.bank ∧ (countDirectiveOverflow s).places = s.places ∧
    (countDirectiveOverflow s).records = s.records ∧ (countDirectiveOverflow s).run = s.run ∧
    (countDirectiveOverflow s).store = s.store ∧ (countDirectiveOverflow s).latch = s.latch ∧
    (countDirectiveOverflow s).storeWork = s.storeWork ∧ (countDirectiveOverflow s).settings = s.settings :=
  ⟨rfl, rfl, rfl, rfl, rfl, rfl, rfl, rfl, rfl, rfl, rfl, rfl, rfl, rfl, rfl, rfl, rfl, rfl, rfl, rfl, rfl, rfl, rfl,
    rfl, rfl, rfl, rfl, rfl, rfl, rfl, rfl, rfl, rfl, rfl, rfl, rfl, rfl, rfl, rfl, rfl, rfl, rfl, rfl, rfl, rfl,
    rfl, rfl, rfl⟩

/-- Every field after counting a report overflow. -/
@[simp] theorem countReportOverflow_fields (s : State) :
    (countReportOverflow s).pending = s.pending ∧ (countReportOverflow s).engine = s.engine ∧
    (countReportOverflow s).restartCause = s.restartCause ∧ (countReportOverflow s).foundValid = s.foundValid ∧
    (countReportOverflow s).installResult = s.installResult ∧ (countReportOverflow s).engineTime = s.engineTime ∧
    (countReportOverflow s).resetN = s.resetN ∧ (countReportOverflow s).adrPins = s.adrPins ∧
    (countReportOverflow s).engineAddress = s.engineAddress ∧
    (countReportOverflow s).addressDefaulted = s.addressDefaulted ∧
    (countReportOverflow s).upReceiving = s.upReceiving ∧ (countReportOverflow s).dnReceiving = s.dnReceiving ∧
    (countReportOverflow s).upQueue = s.upQueue ∧ (countReportOverflow s).dnQueue = s.dnQueue ∧
    (countReportOverflow s).upTx = s.upTx ∧ (countReportOverflow s).dnTx = s.dnTx ∧
    (countReportOverflow s).arbiterCount = s.arbiterCount ∧ (countReportOverflow s).reportCount = s.reportCount ∧
    (countReportOverflow s).patternCount = s.patternCount ∧ (countReportOverflow s).lastBreakEnd = s.lastBreakEnd ∧
    (countReportOverflow s).repeats = s.repeats ∧ (countReportOverflow s).directiveQueue = s.directiveQueue ∧
    (countReportOverflow s).answer = s.answer ∧ (countReportOverflow s).takingSuspended = s.takingSuspended ∧
    (countReportOverflow s).pointer = s.pointer ∧ (countReportOverflow s).fieldMask = s.fieldMask ∧
    (countReportOverflow s).purgeEnable = s.purgeEnable ∧ (countReportOverflow s).window = s.window ∧
    (countReportOverflow s).reports = s.reports ∧ (countReportOverflow s).causeFlags = s.causeFlags ∧
    (countReportOverflow s).reportMask = s.reportMask ∧
    (countReportOverflow s).counters = { s.counters with reportOverflow := min (s.counters.reportOverflow + 1) 65535 } ∧
    (countReportOverflow s).nodes = s.nodes ∧ (countReportOverflow s).slotMap = s.slotMap ∧
    (countReportOverflow s).profiles = s.profiles ∧ (countReportOverflow s).curves = s.curves ∧
    (countReportOverflow s).rows = s.rows ∧ (countReportOverflow s).origin = s.origin ∧
    (countReportOverflow s).modified = s.modified ∧ (countReportOverflow s).slots = s.slots ∧
    (countReportOverflow s).bank = s.bank ∧ (countReportOverflow s).places = s.places ∧
    (countReportOverflow s).records = s.records ∧ (countReportOverflow s).run = s.run ∧
    (countReportOverflow s).store = s.store ∧ (countReportOverflow s).latch = s.latch ∧
    (countReportOverflow s).storeWork = s.storeWork ∧ (countReportOverflow s).settings = s.settings :=
  ⟨rfl, rfl, rfl, rfl, rfl, rfl, rfl, rfl, rfl, rfl, rfl, rfl, rfl, rfl, rfl, rfl, rfl, rfl, rfl, rfl, rfl, rfl, rfl,
    rfl, rfl, rfl, rfl, rfl, rfl, rfl, rfl, rfl, rfl, rfl, rfl, rfl, rfl, rfl, rfl, rfl, rfl, rfl, rfl, rfl, rfl,
    rfl, rfl, rfl⟩

/-- Every field after the ports at a restart. -/
@[simp] theorem restartPorts_fields (spare : Bool) (s : State) :
    (restartPorts spare s).pending = s.pending ∧ (restartPorts spare s).engine = s.engine ∧
    (restartPorts spare s).restartCause = s.restartCause ∧ (restartPorts spare s).foundValid = s.foundValid ∧
    (restartPorts spare s).installResult = s.installResult ∧ (restartPorts spare s).engineTime = s.engineTime ∧
    (restartPorts spare s).resetN = s.resetN ∧ (restartPorts spare s).adrPins = s.adrPins ∧
    (restartPorts spare s).engineAddress = s.engineAddress ∧
    (restartPorts spare s).addressDefaulted = s.addressDefaulted ∧ (restartPorts spare s).upReceiving = false ∧
    (restartPorts spare s).dnReceiving = false ∧ (restartPorts spare s).upQueue = [] ∧
    (restartPorts spare s).dnQueue = [] ∧ (restartPorts spare s).upTx = none ∧
    (restartPorts spare s).dnTx = keepLevel spare s.dnTx ∧ (restartPorts spare s).arbiterCount = 0 ∧
    (restartPorts spare s).reportCount = s.reportCount ∧ (restartPorts spare s).patternCount = 0 ∧
    (restartPorts spare s).lastBreakEnd = s.lastBreakEnd ∧ (restartPorts spare s).repeats = s.repeats ∧
    (restartPorts spare s).directiveQueue = s.directiveQueue ∧ (restartPorts spare s).answer = s.answer ∧
    (restartPorts spare s).takingSuspended = s.takingSuspended ∧ (restartPorts spare s).pointer = s.pointer ∧
    (restartPorts spare s).fieldMask = s.fieldMask ∧ (restartPorts spare s).purgeEnable = s.purgeEnable ∧
    (restartPorts spare s).window = s.window ∧ (restartPorts spare s).reports = s.reports ∧
    (restartPorts spare s).causeFlags = s.causeFlags ∧ (restartPorts spare s).reportMask = s.reportMask ∧
    (restartPorts spare s).counters = s.counters ∧ (restartPorts spare s).nodes = s.nodes ∧
    (restartPorts spare s).slotMap = s.slotMap ∧ (restartPorts spare s).profiles = s.profiles ∧
    (restartPorts spare s).curves = s.curves ∧ (restartPorts spare s).rows = s.rows ∧
    (restartPorts spare s).origin = s.origin ∧ (restartPorts spare s).modified = s.modified ∧
    (restartPorts spare s).slots = s.slots ∧ (restartPorts spare s).bank = s.bank ∧
    (restartPorts spare s).places = s.places ∧ (restartPorts spare s).records = s.records ∧
    (restartPorts spare s).run = s.run ∧ (restartPorts spare s).store = s.store ∧
    (restartPorts spare s).latch = s.latch ∧ (restartPorts spare s).storeWork = s.storeWork ∧
    (restartPorts spare s).settings = s.settings :=
  ⟨rfl, rfl, rfl, rfl, rfl, rfl, rfl, rfl, rfl, rfl, rfl, rfl, rfl, rfl, rfl, rfl, rfl, rfl, rfl, rfl, rfl, rfl, rfl,
    rfl, rfl, rfl, rfl, rfl, rfl, rfl, rfl, rfl, rfl, rfl, rfl, rfl, rfl, rfl, rfl, rfl, rfl, rfl, rfl, rfl, rfl,
    rfl, rfl, rfl⟩

/-- Every field after entering STARTING. -/
@[simp] theorem enterStarting_fields (spare : Bool) (s : State) :
    (enterStarting spare s).pending = s.pending ∧ (enterStarting spare s).engine = .starting ∧
    (enterStarting spare s).restartCause = s.restartCause ∧ (enterStarting spare s).foundValid = s.foundValid ∧
    (enterStarting spare s).installResult = s.installResult ∧ (enterStarting spare s).engineTime = s.engineTime ∧
    (enterStarting spare s).resetN = s.resetN ∧ (enterStarting spare s).adrPins = s.adrPins ∧
    (enterStarting spare s).engineAddress = s.engineAddress ∧
    (enterStarting spare s).addressDefaulted = s.addressDefaulted ∧ (enterStarting spare s).upReceiving = false ∧
    (enterStarting spare s).dnReceiving = false ∧ (enterStarting spare s).upQueue = [] ∧
    (enterStarting spare s).dnQueue = [] ∧ (enterStarting spare s).upTx = none ∧
    (enterStarting spare s).dnTx = keepLevel spare s.dnTx ∧ (enterStarting spare s).arbiterCount = 0 ∧
    (enterStarting spare s).reportCount = s.reportCount ∧ (enterStarting spare s).patternCount = 0 ∧
    (enterStarting spare s).lastBreakEnd = s.lastBreakEnd ∧ (enterStarting spare s).repeats = s.repeats ∧
    (enterStarting spare s).directiveQueue = s.directiveQueue ∧ (enterStarting spare s).answer = s.answer ∧
    (enterStarting spare s).takingSuspended = false ∧ (enterStarting spare s).pointer = s.pointer ∧
    (enterStarting spare s).fieldMask = s.fieldMask ∧ (enterStarting spare s).purgeEnable = s.purgeEnable ∧
    (enterStarting spare s).window = s.window ∧ (enterStarting spare s).reports = s.reports ∧
    (enterStarting spare s).causeFlags = s.causeFlags ∧ (enterStarting spare s).reportMask = s.reportMask ∧
    (enterStarting spare s).counters = s.counters ∧ (enterStarting spare s).nodes = s.nodes ∧
    (enterStarting spare s).slotMap = s.slotMap ∧ (enterStarting spare s).profiles = s.profiles ∧
    (enterStarting spare s).curves = s.curves ∧ (enterStarting spare s).rows = s.rows ∧
    (enterStarting spare s).origin = s.origin ∧ (enterStarting spare s).modified = s.modified ∧
    (enterStarting spare s).slots = s.slots ∧ (enterStarting spare s).bank = s.bank ∧
    (enterStarting spare s).places = s.places ∧ (enterStarting spare s).records = s.records ∧
    (enterStarting spare s).run = none ∧ (enterStarting spare s).store = s.store ∧
    (enterStarting spare s).latch = s.latch ∧ (enterStarting spare s).storeWork = none ∧
    (enterStarting spare s).settings = s.settings :=
  ⟨rfl, rfl, rfl, rfl, rfl, rfl, rfl, rfl, rfl, rfl, rfl, rfl, rfl, rfl, rfl, rfl, rfl, rfl, rfl, rfl, rfl, rfl, rfl,
    rfl, rfl, rfl, rfl, rfl, rfl, rfl, rfl, rfl, rfl, rfl, rfl, rfl, rfl, rfl, rfl, rfl, rfl, rfl, rfl, rfl, rfl,
    rfl, rfl, rfl⟩

/-- Every field after a restart trigger. -/
@[simp] theorem triggerRestart_fields (cause : RestartCause) (s : State) :
    (triggerRestart cause s).pending = s.pending ∧ (triggerRestart cause s).engine = .starting ∧
    (triggerRestart cause s).restartCause = cause ∧ (triggerRestart cause s).foundValid = s.foundValid ∧
    (triggerRestart cause s).installResult = s.installResult ∧ (triggerRestart cause s).engineTime = s.engineTime ∧
    (triggerRestart cause s).resetN = s.resetN ∧ (triggerRestart cause s).adrPins = s.adrPins ∧
    (triggerRestart cause s).engineAddress = s.engineAddress ∧
    (triggerRestart cause s).addressDefaulted = s.addressDefaulted ∧ (triggerRestart cause s).upReceiving = false ∧
    (triggerRestart cause s).dnReceiving = false ∧ (triggerRestart cause s).upQueue = [] ∧
    (triggerRestart cause s).dnQueue = [] ∧ (triggerRestart cause s).upTx = none ∧
    (triggerRestart cause s).dnTx = keepLevel (sparesLevel cause) s.dnTx ∧
    (triggerRestart cause s).arbiterCount = 0 ∧ (triggerRestart cause s).reportCount = s.reportCount ∧
    (triggerRestart cause s).patternCount = 0 ∧ (triggerRestart cause s).lastBreakEnd = s.lastBreakEnd ∧
    (triggerRestart cause s).repeats = s.repeats ∧ (triggerRestart cause s).directiveQueue = s.directiveQueue ∧
    (triggerRestart cause s).answer = s.answer ∧ (triggerRestart cause s).takingSuspended = false ∧
    (triggerRestart cause s).pointer = s.pointer ∧ (triggerRestart cause s).fieldMask = s.fieldMask ∧
    (triggerRestart cause s).purgeEnable = s.purgeEnable ∧ (triggerRestart cause s).window = s.window ∧
    (triggerRestart cause s).reports = s.reports ∧ (triggerRestart cause s).causeFlags = s.causeFlags ∧
    (triggerRestart cause s).reportMask = s.reportMask ∧ (triggerRestart cause s).counters = s.counters ∧
    (triggerRestart cause s).nodes = s.nodes ∧ (triggerRestart cause s).slotMap = s.slotMap ∧
    (triggerRestart cause s).profiles = s.profiles ∧ (triggerRestart cause s).curves = s.curves ∧
    (triggerRestart cause s).rows = s.rows ∧ (triggerRestart cause s).origin = s.origin ∧
    (triggerRestart cause s).modified = s.modified ∧ (triggerRestart cause s).slots = s.slots ∧
    (triggerRestart cause s).bank = s.bank ∧ (triggerRestart cause s).places = s.places ∧
    (triggerRestart cause s).records = s.records ∧ (triggerRestart cause s).run = none ∧
    (triggerRestart cause s).store = s.store ∧ (triggerRestart cause s).latch = s.latch ∧
    (triggerRestart cause s).storeWork = none ∧ (triggerRestart cause s).settings = s.settings :=
  ⟨rfl, rfl, rfl, rfl, rfl, rfl, rfl, rfl, rfl, rfl, rfl, rfl, rfl, rfl, rfl, rfl, rfl, rfl, rfl, rfl, rfl, rfl, rfl,
    rfl, rfl, rfl, rfl, rfl, rfl, rfl, rfl, rfl, rfl, rfl, rfl, rfl, rfl, rfl, rfl, rfl, rfl, rfl, rfl, rfl, rfl,
    rfl, rfl, rfl⟩

/-- The record of each slot after changing the records of all slots. -/
@[simp] theorem mapSlots_slot (f : SlotNo → ModuleRecord → ModuleRecord) (s : State) (i : SlotNo) :
    (mapSlots f s).slots[i] = s.slots[i].map (f i) := by
  simp [mapSlots]

end Sys2Proof.Machine
end

