-- ==== Sys2Proof/Laws/Frame.lean ====
section
/-! SUPPORT. What the shared operations can change: the frame of each, and what each does to the fields it reaches. -/

namespace Sys2Proof.Machine

/-! ## Work on the places and string records -/

/-- `t` differs from `s` by work on the places and string records alone. -/
def BankWork (s t : State) : Prop :=
  t = { s with
    places := t.places
    records := t.records }

/-- The fields that work on the places and string records leaves. -/
theorem BankWork.fields {s t : State} (h : BankWork s t) :
    t.pending = s.pending ∧ t.engine = s.engine ∧ t.restartCause = s.restartCause ∧ t.foundValid = s.foundValid ∧
    t.installResult = s.installResult ∧ t.engineTime = s.engineTime ∧ t.resetN = s.resetN ∧ t.adrPins = s.adrPins ∧
    t.engineAddress = s.engineAddress ∧ t.addressDefaulted = s.addressDefaulted ∧ t.upReceiving = s.upReceiving ∧
    t.dnReceiving = s.dnReceiving ∧ t.upQueue = s.upQueue ∧ t.dnQueue = s.dnQueue ∧ t.upTx = s.upTx ∧
    t.dnTx = s.dnTx ∧ t.arbiterCount = s.arbiterCount ∧ t.reportCount = s.reportCount ∧
    t.patternCount = s.patternCount ∧ t.lastBreakEnd = s.lastBreakEnd ∧ t.repeats = s.repeats ∧
    t.directiveQueue = s.directiveQueue ∧ t.answer = s.answer ∧ t.takingSuspended = s.takingSuspended ∧
    t.pointer = s.pointer ∧ t.fieldMask = s.fieldMask ∧ t.purgeEnable = s.purgeEnable ∧ t.window = s.window ∧
    t.reports = s.reports ∧ t.causeFlags = s.causeFlags ∧ t.reportMask = s.reportMask ∧ t.counters = s.counters ∧
    t.nodes = s.nodes ∧ t.slotMap = s.slotMap ∧ t.profiles = s.profiles ∧ t.curves = s.curves ∧ t.rows = s.rows ∧
    t.origin = s.origin ∧ t.modified = s.modified ∧ t.slots = s.slots ∧ t.bank = s.bank ∧ t.run = s.run ∧
    t.store = s.store ∧ t.latch = s.latch ∧ t.storeWork = s.storeWork ∧ t.settings = s.settings := by
  rw [h]
  simp only [and_self]

/-- BankWork relates a state to itself. -/
theorem BankWork.refl (s : State) : BankWork s s := rfl

/-- BankWork composes. -/
theorem BankWork.trans {s t u : State} (h : BankWork s t) (k : BankWork t u) : BankWork s u := by
  unfold BankWork at *
  rw [k, h]

/-- A fold of BankWork operations is one. -/
theorem BankWork.foldl {α : Type} (f : State → α → State) (h : ∀ s a, BankWork s (f s a)) (l : List α) (s : State) :
    BankWork s (l.foldl f s) := by
  induction l generalizing s with
  | nil => exact BankWork.refl s
  | cons a l ih => exact (h s a).trans (ih (f s a))

/-! ## Work on the planning run -/

/-- `t` differs from `s` by work on the planning run alone. -/
def RunWork (s t : State) : Prop :=
  t = { s with
    run := t.run }

/-- The fields that work on the planning run leaves. -/
theorem RunWork.fields {s t : State} (h : RunWork s t) :
    t.pending = s.pending ∧ t.engine = s.engine ∧ t.restartCause = s.restartCause ∧ t.foundValid = s.foundValid ∧
    t.installResult = s.installResult ∧ t.engineTime = s.engineTime ∧ t.resetN = s.resetN ∧ t.adrPins = s.adrPins ∧
    t.engineAddress = s.engineAddress ∧ t.addressDefaulted = s.addressDefaulted ∧ t.upReceiving = s.upReceiving ∧
    t.dnReceiving = s.dnReceiving ∧ t.upQueue = s.upQueue ∧ t.dnQueue = s.dnQueue ∧ t.upTx = s.upTx ∧
    t.dnTx = s.dnTx ∧ t.arbiterCount = s.arbiterCount ∧ t.reportCount = s.reportCount ∧
    t.patternCount = s.patternCount ∧ t.lastBreakEnd = s.lastBreakEnd ∧ t.repeats = s.repeats ∧
    t.directiveQueue = s.directiveQueue ∧ t.answer = s.answer ∧ t.takingSuspended = s.takingSuspended ∧
    t.pointer = s.pointer ∧ t.fieldMask = s.fieldMask ∧ t.purgeEnable = s.purgeEnable ∧ t.window = s.window ∧
    t.reports = s.reports ∧ t.causeFlags = s.causeFlags ∧ t.reportMask = s.reportMask ∧ t.counters = s.counters ∧
    t.nodes = s.nodes ∧ t.slotMap = s.slotMap ∧ t.profiles = s.profiles ∧ t.curves = s.curves ∧ t.rows = s.rows ∧
    t.origin = s.origin ∧ t.modified = s.modified ∧ t.slots = s.slots ∧ t.bank = s.bank ∧ t.places = s.places ∧
    t.records = s.records ∧ t.store = s.store ∧ t.latch = s.latch ∧ t.storeWork = s.storeWork ∧
    t.settings = s.settings := by
  rw [h]
  simp only [and_self]

/-- RunWork relates a state to itself. -/
theorem RunWork.refl (s : State) : RunWork s s := rfl

/-- RunWork composes. -/
theorem RunWork.trans {s t u : State} (h : RunWork s t) (k : RunWork t u) : RunWork s u := by
  unfold RunWork at *
  rw [k, h]

/-- A fold of RunWork operations is one. -/
theorem RunWork.foldl {α : Type} (f : State → α → State) (h : ∀ s a, RunWork s (f s a)) (l : List α) (s : State) :
    RunWork s (l.foldl f s) := by
  induction l generalizing s with
  | nil => exact RunWork.refl s
  | cons a l ih => exact (h s a).trans (ih (f s a))

/-! ## Work on slots, the bank and the reports -/

/-- `t` differs from `s` by work on slots, the bank and the reports alone. -/
def SlotWork (s t : State) : Prop :=
  t = { s with
    slots := t.slots
    places := t.places
    records := t.records
    reports := t.reports
    causeFlags := t.causeFlags
    counters := t.counters
    run := t.run }

/-- The fields that work on slots, the bank and the reports leaves. -/
theorem SlotWork.fields {s t : State} (h : SlotWork s t) :
    t.pending = s.pending ∧ t.engine = s.engine ∧ t.restartCause = s.restartCause ∧ t.foundValid = s.foundValid ∧
    t.installResult = s.installResult ∧ t.engineTime = s.engineTime ∧ t.resetN = s.resetN ∧ t.adrPins = s.adrPins ∧
    t.engineAddress = s.engineAddress ∧ t.addressDefaulted = s.addressDefaulted ∧ t.upReceiving = s.upReceiving ∧
    t.dnReceiving = s.dnReceiving ∧ t.upQueue = s.upQueue ∧ t.dnQueue = s.dnQueue ∧ t.upTx = s.upTx ∧
    t.dnTx = s.dnTx ∧ t.arbiterCount = s.arbiterCount ∧ t.reportCount = s.reportCount ∧
    t.patternCount = s.patternCount ∧ t.lastBreakEnd = s.lastBreakEnd ∧ t.repeats = s.repeats ∧
    t.directiveQueue = s.directiveQueue ∧ t.answer = s.answer ∧ t.takingSuspended = s.takingSuspended ∧
    t.pointer = s.pointer ∧ t.fieldMask = s.fieldMask ∧ t.purgeEnable = s.purgeEnable ∧ t.window = s.window ∧
    t.reportMask = s.reportMask ∧ t.nodes = s.nodes ∧ t.slotMap = s.slotMap ∧ t.profiles = s.profiles ∧
    t.curves = s.curves ∧ t.rows = s.rows ∧ t.origin = s.origin ∧ t.modified = s.modified ∧ t.bank = s.bank ∧
    t.store = s.store ∧ t.latch = s.latch ∧ t.storeWork = s.storeWork ∧ t.settings = s.settings := by
  rw [h]
  simp only [and_self]

/-- SlotWork relates a state to itself. -/
theorem SlotWork.refl (s : State) : SlotWork s s := rfl

/-- SlotWork composes. -/
theorem SlotWork.trans {s t u : State} (h : SlotWork s t) (k : SlotWork t u) : SlotWork s u := by
  unfold SlotWork at *
  rw [k, h]

/-- A fold of SlotWork operations is one. -/
theorem SlotWork.foldl {α : Type} (f : State → α → State) (h : ∀ s a, SlotWork s (f s a)) (l : List α) (s : State) :
    SlotWork s (l.foldl f s) := by
  induction l generalizing s with
  | nil => exact SlotWork.refl s
  | cons a l ih => exact (h s a).trans (ih (f s a))

/-! ## What idle ports start -/

/-- `t` differs from `s` by what idle ports start alone. -/
def PortWork (s t : State) : Prop :=
  t = { s with
    upTx := t.upTx
    dnTx := t.dnTx
    repeats := t.repeats
    upQueue := t.upQueue
    dnQueue := t.dnQueue
    arbiterCount := t.arbiterCount
    reportCount := t.reportCount
    reports := t.reports
    answer := t.answer }

/-- The fields that what idle ports start leaves. -/
theorem PortWork.fields {s t : State} (h : PortWork s t) :
    t.pending = s.pending ∧ t.engine = s.engine ∧ t.restartCause = s.restartCause ∧ t.foundValid = s.foundValid ∧
    t.installResult = s.installResult ∧ t.engineTime = s.engineTime ∧ t.resetN = s.resetN ∧ t.adrPins = s.adrPins ∧
    t.engineAddress = s.engineAddress ∧ t.addressDefaulted = s.addressDefaulted ∧ t.upReceiving = s.upReceiving ∧
    t.dnReceiving = s.dnReceiving ∧ t.patternCount = s.patternCount ∧ t.lastBreakEnd = s.lastBreakEnd ∧
    t.directiveQueue = s.directiveQueue ∧ t.takingSuspended = s.takingSuspended ∧ t.pointer = s.pointer ∧
    t.fieldMask = s.fieldMask ∧ t.purgeEnable = s.purgeEnable ∧ t.window = s.window ∧ t.causeFlags = s.causeFlags ∧
    t.reportMask = s.reportMask ∧ t.counters = s.counters ∧ t.nodes = s.nodes ∧ t.slotMap = s.slotMap ∧
    t.profiles = s.profiles ∧ t.curves = s.curves ∧ t.rows = s.rows ∧ t.origin = s.origin ∧ t.modified = s.modified ∧
    t.slots = s.slots ∧ t.bank = s.bank ∧ t.places = s.places ∧ t.records = s.records ∧ t.run = s.run ∧
    t.store = s.store ∧ t.latch = s.latch ∧ t.storeWork = s.storeWork ∧ t.settings = s.settings := by
  rw [h]
  simp only [and_self]

/-- PortWork relates a state to itself. -/
theorem PortWork.refl (s : State) : PortWork s s := rfl

/-- PortWork composes. -/
theorem PortWork.trans {s t u : State} (h : PortWork s t) (k : PortWork t u) : PortWork s u := by
  unfold PortWork at *
  rw [k, h]

/-- A fold of PortWork operations is one. -/
theorem PortWork.foldl {α : Type} (f : State → α → State) (h : ∀ s a, PortWork s (f s a)) (l : List α) (s : State) :
    PortWork s (l.foldl f s) := by
  induction l generalizing s with
  | nil => exact PortWork.refl s
  | cons a l ih => exact (h s a).trans (ih (f s a))

/-! ## The report unit -/

/-- What requests to the report unit do: the queue keeps its bound and its apartness, the counters keep theirs, and no
cause flag is cleared. -/
structure Reported (s t : State) : Prop where
  length : s.reports.length ≤ 16 → t.reports.length ≤ 16
  keys : (s.reports.Pairwise fun a b => ¬ (a.kind = b.kind ∧ a.slot = b.slot)) →
    t.reports.Pairwise fun a b => ¬ (a.kind = b.kind ∧ a.slot = b.slot)
  counters : s.counters.bounded → t.counters.bounded
  flags : ∀ k, s.causeFlags.getLsbD k = true → t.causeFlags.getLsbD k = true

/-- Reported relates states that agree on the report unit. -/
theorem Reported.same {s t : State} (hr : t.reports = s.reports) (hc : t.counters = s.counters)
    (hf : t.causeFlags = s.causeFlags) : Reported s t :=
  ⟨by simp [hr], by simp [hr], by simp [hc], by simp [hf]⟩

/-- Reported relates a state to itself. -/
theorem Reported.refl (s : State) : Reported s s := Reported.same rfl rfl rfl

/-- Reported composes. -/
theorem Reported.trans {s t u : State} (h : Reported s t) (k : Reported t u) : Reported s u :=
  ⟨k.length ∘ h.length, k.keys ∘ h.keys, k.counters ∘ h.counters, fun n hn => k.flags n (h.flags n hn)⟩

/-- Two reports have the same key when they have the same kind and slot. -/
theorem sameKey_iff (a b : Report) : Report.sameKey a b = true ↔ a.kind = b.kind ∧ a.slot = b.slot := by
  simp [Report.sameKey]

/-- A merge has the key of the report that waited. -/
theorem merge_key (w r : Report) (h : Report.sameKey w r = true) :
    (Report.merge w r).kind = w.kind ∧ (Report.merge w r).slot = w.slot := by
  obtain ⟨hk, hs⟩ := (sameKey_iff w r).1 h
  cases w <;> cases r <;> simp_all [Report.merge, Report.kind, Report.slot]

/-- A merge into the queue keeps the key of every waiting report. -/
theorem mergeInto_key (r w : Report) :
    (if Report.sameKey w r then Report.merge w r else w).kind = w.kind ∧
      (if Report.sameKey w r then Report.merge w r else w).slot = w.slot := by
  split
  · exact merge_key w r ‹_›
  · exact ⟨rfl, rfl⟩

/-- A report request is work on the report unit. -/
theorem requestReport_work (r : Report) (s : State) : SlotWork s (requestReport r s) := by
  simp only [requestReport, placeReport, SlotWork]
  split <;> [split; skip] <;> [skip; split; skip] <;> rfl

/-- A report request keeps the slots, the bank and the run. -/
@[simp] theorem requestReport_keeps (r : Report) (s : State) :
    (requestReport r s).slots = s.slots ∧ (requestReport r s).places = s.places ∧
      (requestReport r s).records = s.records ∧ (requestReport r s).run = s.run := by
  simp only [requestReport, placeReport]
  split <;> [split; skip] <;> [skip; split; skip] <;> exact ⟨rfl, rfl, rfl, rfl⟩

/-- A report request sets the flag of its kind. -/
theorem requestReport_flag (r : Report) (s : State) (h : r.kind ≠ .attention) :
    (requestReport r s).causeFlags.getLsbD r.kind.code = true := by
  have key : ∀ k : ReportKind, k ≠ .attention → ∀ fl : BitVec 10,
      (flagsAfterRequest fl k).getLsbD k.code = true := by
    intro k hk fl
    cases k <;> simp_all [flagsAfterRequest, setFlag, ReportKind.code]
  simp only [requestReport, placeReport]
  split <;> [split; skip] <;> [skip; split; skip] <;>
    simp [countReportOverflow, setFlag, key r.kind h s.causeFlags]

/-- What a report request does to the report unit. -/
theorem requestReport_reported (r : Report) (s : State) : Reported s (requestReport r s) := by
  have flags : ∀ k, s.causeFlags.getLsbD k = true → (flagsAfterRequest s.causeFlags r.kind).getLsbD k = true := by
    intro k hk
    cases hr : r.kind <;> simp [flagsAfterRequest, setFlag, hk]
  simp only [requestReport, placeReport]
  split <;> [split; skip] <;> [skip; split; skip]
  · refine ⟨by simp, fun h => ?_, id, flags⟩
    simp only [List.pairwise_map]
    refine h.imp fun {a b} hab => ?_
    rw [(mergeInto_key r a).1, (mergeInto_key r b).1, (mergeInto_key r a).2, (mergeInto_key r b).2]
    exact hab
  · rename_i hno hlen
    refine ⟨fun _ => by simp [Config.reportQueueSize] at hlen ⊢; omega, fun h => ?_, id, flags⟩
    simp only [List.any_eq_true, not_exists, not_and, sameKey_iff] at hno
    exact List.pairwise_append.2 ⟨h, List.pairwise_singleton _ _, fun a ha b hb => by
      rw [List.mem_singleton.1 hb]; exact fun hk => hno a ha hk.1 hk.2⟩
  · refine ⟨id, id, fun h => ?_, fun k hk => ?_⟩
    · simp only [Counters.bounded, countReportOverflow, countUp, Config.counterMax] at h ⊢
      omega
    · simp [countReportOverflow, setFlag, flags k hk]
  · exact ⟨id, id, id, flags⟩

/-! ## Places -/

/-- Work on the bank is work on slots, the bank and the reports. -/
theorem BankWork.slotWork {s t : State} (h : BankWork s t) : SlotWork s t := by
  unfold BankWork SlotWork at *
  rw [h]

/-- Work on the run is work on slots, the bank and the reports. -/
theorem RunWork.slotWork {s t : State} (h : RunWork s t) : SlotWork s t := by
  unfold RunWork SlotWork at *
  rw [h]

/-- Every place keeps its marks, and holds the slot it held or none. -/
def Emptied (s t : State) : Prop :=
  ∀ p : PlaceNo, t.places[p].fixed = s.places[p].fixed ∧ t.places[p].alarm = s.places[p].alarm ∧
    (t.places[p].slot = s.places[p].slot ∨ t.places[p].slot = none)

/-- Emptied relates states with the same places. -/
theorem Emptied.same {s t : State} (h : t.places = s.places) : Emptied s t := fun p => by simp [h]

/-- Emptied composes. -/
theorem Emptied.trans {s t u : State} (h : Emptied s t) (k : Emptied t u) : Emptied s u := fun p => by
  obtain ⟨h1, h2, h3⟩ := h p
  obtain ⟨k1, k2, k3⟩ := k p
  refine ⟨k1.trans h1, k2.trans h2, ?_⟩
  rcases k3 with k3 | k3
  · rw [k3]; exact h3
  · exact .inr k3

/-- The place after changing one. -/
theorem updatePlace_place (p q : PlaceNo) (f : Place → Place) (s : State) :
    (updatePlace p f s).places[q] = if p = q then f s.places[q] else s.places[q] := by
  simp only [updatePlace, Fin.getElem_fin, Vector.getElem_set, Fin.ext_iff]
  split
  · rename_i h; simp [h]
  · rfl

/-- Changing places is work on the bank. -/
theorem updatePlaces_work (ps : List PlaceNo) (f : Place → Place) (s : State) : BankWork s (updatePlaces ps f s) :=
  BankWork.foldl (fun s p => updatePlace p f s) (fun _ _ => rfl) ps s

/-- Changing places keeps the string records. -/
@[simp] theorem updatePlaces_records (ps : List PlaceNo) (f : Place → Place) (s : State) :
    (updatePlaces ps f s).records = s.records := by
  induction ps generalizing s with
  | nil => rfl
  | cons p ps ih => exact ih (updatePlace p f s)

/-- Each place after an idempotent change of some. -/
theorem updatePlaces_place (ps : List PlaceNo) (f : Place → Place) (hf : ∀ x, f (f x) = f x) (s : State)
    (q : PlaceNo) : (updatePlaces ps f s).places[q] = if q ∈ ps then f s.places[q] else s.places[q] := by
  induction ps generalizing s with
  | nil => rfl
  | cons p ps ih =>
    rw [show updatePlaces (p :: ps) f s = updatePlaces ps f (updatePlace p f s) from rfl, ih, updatePlace_place]
    by_cases hq : p = q
    · subst hq; simp [hf]
    · simp [hq, Ne.symm hq]

/-- Emptying a position is work on the bank. -/
theorem emptyPosition_work (i : StringNo) (pos : Nat) (s : State) : BankWork s (emptyPosition i pos s) :=
  (updatePlaces_work _ _ s).trans rfl

/-- Emptying a position empties places. -/
theorem emptyPosition_emptied (i : StringNo) (pos : Nat) (s : State) : Emptied s (emptyPosition i pos s) := fun p => by
  have h : (emptyPosition i pos s).places[p] = _ :=
    updatePlaces_place (s.bank[i].placesOf pos) (fun q => { q with slot := none }) (fun _ => rfl) s p
  rw [h]
  split
  · exact ⟨rfl, rfl, .inr rfl⟩
  · exact ⟨rfl, rfl, .inl rfl⟩

/-- Leaving a place is work on the bank. -/
theorem leavePlace_work (i : SlotNo) (s : State) : BankWork s (leavePlace i s) := by
  unfold leavePlace
  split <;> [skip; split] <;> [skip; skip; split]
  · exact .refl s
  · exact .refl s
  · rfl
  · exact emptyPosition_work _ _ s

/-- Leaving a place empties places. -/
theorem leavePlace_emptied (i : SlotNo) (s : State) : Emptied s (leavePlace i s) := by
  unfold leavePlace
  split <;> [skip; split] <;> [skip; skip; split]
  · exact .same rfl
  · exact .same rfl
  · intro p
    rw [updatePlace_place]
    split
    · exact ⟨rfl, rfl, .inr rfl⟩
    · exact ⟨rfl, rfl, .inl rfl⟩
  · exact emptyPosition_emptied _ _ s

/-- The eligibility rule is work on the bank. -/
theorem applyEligibility_work (i : SlotNo) (s : State) : BankWork s (applyEligibility i s) := by
  unfold applyEligibility
  split <;> [skip; split] <;> [skip; skip; split]
  · exact .refl s
  · exact .refl s
  · exact .refl s
  · exact leavePlace_work i s

/-- The eligibility rule empties places. -/
theorem applyEligibility_emptied (i : SlotNo) (s : State) : Emptied s (applyEligibility i s) := by
  unfold applyEligibility
  split <;> [skip; split] <;> [skip; skip; split]
  · exact .same rfl
  · exact .same rfl
  · exact .same rfl
  · exact leavePlace_emptied i s

/-- The review test is work on the bank. -/
theorem reviewTest_work (i : SlotNo) (s : State) : BankWork s (reviewTest i s) := by
  unfold reviewTest
  split <;> [skip; split] <;> [skip; skip; split] <;> [skip; skip; skip; split] <;>
    first | exact .refl s | rfl

/-- The review test keeps the places. -/
@[simp] theorem reviewTest_places (i : SlotNo) (s : State) : (reviewTest i s).places = s.places := by
  unfold reviewTest
  split <;> [skip; split] <;> [skip; skip; split] <;> [skip; skip; skip; split] <;> rfl

/-! ## Disturbing a run -/

/-- What disturbing does to a run: its disturbed mark may be set. -/
def Disturbed (s t : State) : Prop :=
  ∃ d, t.run = s.run.map fun r => { r with disturbed := r.disturbed || d }

/-- Disturbed relates states with the same run. -/
theorem Disturbed.same {s t : State} (h : t.run = s.run) : Disturbed s t :=
  ⟨false, by rw [h]; cases s.run <;> simp⟩

/-- Disturbed composes. -/
theorem Disturbed.trans {s t u : State} (h : Disturbed s t) (k : Disturbed t u) : Disturbed s u := by
  obtain ⟨a, ha⟩ := h
  obtain ⟨b, hb⟩ := k
  refine ⟨a || b, ?_⟩
  rw [hb, ha]
  cases s.run <;> simp [Bool.or_assoc]

/-- Disturbing keeps whether a run exists. -/
theorem Disturbed.isSome {s t : State} (h : Disturbed s t) : t.run.isSome = s.run.isSome := by
  obtain ⟨d, h⟩ := h
  simp [h]

/-- The run after disturbing it for a slot. -/
theorem disturbFor_run (i : SlotNo) (s : State) :
    (disturbFor i s).run = s.run.map fun r => { r with disturbed := r.disturbed || hasUnstruckEntry s i } := by
  unfold disturbFor
  cases hr : s.run
  · simp [hasUnstruckEntry, hr]
  · cases h : hasUnstruckEntry s i <;> simp [hr]

/-- Disturbing for a slot is work on the run. -/
theorem disturbFor_work (i : SlotNo) (s : State) : RunWork s (disturbFor i s) := by
  unfold disturbFor
  split <;> rfl

/-- Disturbing for a slot disturbs. -/
theorem disturbFor_disturbed (i : SlotNo) (s : State) : Disturbed s (disturbFor i s) := ⟨_, disturbFor_run i s⟩

/-- Disturbing for figures is work on the run. -/
theorem disturbForFigures_work (i : SlotNo) (s : State) : RunWork s (disturbForFigures i s) := by
  unfold disturbForFigures
  split <;> rfl

/-- Disturbing for figures disturbs. -/
theorem disturbForFigures_disturbed (i : SlotNo) (s : State) : Disturbed s (disturbForFigures i s) := by
  unfold disturbForFigures
  split
  · exact ⟨true, by simp⟩
  · exact .same rfl

/-! ## Slots -/

/-- The slot after putting a record in one. -/
theorem setSlot_slot (i j : SlotNo) (v : Slot) (s : State) :
    (setSlot i v s).slots[j] = if i = j then v else s.slots[j] := by
  simp only [setSlot, Fin.getElem_fin, Vector.getElem_set, Fin.ext_iff]

/-- The slot after changing the record of one. -/
theorem updateSlot_slot (i j : SlotNo) (f : ModuleRecord → ModuleRecord) (s : State) :
    (updateSlot i f s).slots[j] = if i = j then s.slots[j].map f else s.slots[j] := by
  rw [updateSlot, setSlot_slot]
  split
  · rename_i h; simp [h]
  · rfl

/-- Each slot after an idempotent change of some records. -/
theorem updateSlots_slot (is : List SlotNo) (f : ModuleRecord → ModuleRecord) (hf : ∀ m, f (f m) = f m) (s : State)
    (j : SlotNo) : (updateSlots is f s).slots[j] = if j ∈ is then s.slots[j].map f else s.slots[j] := by
  induction is generalizing s with
  | nil => rfl
  | cons i is ih =>
    rw [show updateSlots (i :: is) f s = updateSlots is f (updateSlot i f s) from rfl, ih, updateSlot_slot]
    by_cases hj : i = j
    · subst hj; cases s.slots[i] <;> simp [hf]
    · simp [hj, Ne.symm hj]

/-! ## Evaluation -/

/-- What evaluating slots does: grade, grade row and state of occupied slots may change, places may be emptied, reports
requested and the run disturbed. -/
structure Regraded (s t : State) : Prop where
  work : SlotWork s t
  slots : ∀ j : SlotNo, t.slots[j] = s.slots[j] ∨ ∃ m g row st, s.slots[j] = some m ∧
    t.slots[j] = some { m with grade := g, gradeRow := row, state := st }
  places : Emptied s t
  run : Disturbed s t
  reported : Reported s t

/-- Regraded relates a state to itself. -/
theorem Regraded.refl (s : State) : Regraded s s :=
  ⟨.refl s, fun _ => .inl rfl, .same rfl, .same rfl, .refl s⟩

/-- Regraded composes. -/
theorem Regraded.trans {s t u : State} (h : Regraded s t) (k : Regraded t u) : Regraded s u := by
  refine ⟨h.work.trans k.work, fun j => ?_, h.places.trans k.places, h.run.trans k.run, h.reported.trans k.reported⟩
  rcases k.slots j with hk | ⟨m, g, row, st, hm, hk⟩
  · rw [hk]; exact h.slots j
  · rcases h.slots j with hh | ⟨m', g', row', st', hm', hh⟩
    · exact .inr ⟨m, g, row, st, hh ▸ hm, hk⟩
    · rw [hh] at hm
      cases hm
      exact .inr ⟨m', g, row, st, hm', hk⟩

/-- A fold of regrading operations is one. -/
theorem Regraded.foldl {α : Type} (f : State → α → State) (h : ∀ s a, Regraded s (f s a)) (l : List α) (s : State) :
    Regraded s (l.foldl f s) := by
  induction l generalizing s with
  | nil => exact .refl s
  | cons a l ih => exact (h s a).trans (ih (f s a))

/-- A report request is a regrading. -/
theorem requestReport_regraded (r : Report) (s : State) : Regraded s (requestReport r s) :=
  ⟨requestReport_work r s, fun _ => .inl (by simp), .same (by simp), .same (by simp), requestReport_reported r s⟩

/-- Work on the bank that empties places is a regrading. -/
theorem BankWork.regraded {s t : State} (h : BankWork s t) (k : Emptied s t) : Regraded s t := by
  refine ⟨h.slotWork, fun j => .inl ?_, k, .same ?_, .same ?_ ?_ ?_⟩ <;> rw [h]

/-- Disturbing a run is a regrading. -/
theorem RunWork.regraded {s t : State} (h : RunWork s t) (k : Disturbed s t) : Regraded s t := by
  refine ⟨h.slotWork, fun j => .inl ?_, .same ?_, k, .same ?_ ?_ ?_⟩ <;> rw [h]

/-- Writing the grade, grade row and state of a slot is a regrading. -/
theorem setSlot_regraded (i : SlotNo) (m : ModuleRecord) (g : Nat) (row : Option (Fin 16)) (st : ModuleState)
    (s : State) (h : s.slots[i] = some m) :
    Regraded s (setSlot i (some { m with grade := g, gradeRow := row, state := st }) s) := by
  refine ⟨rfl, fun j => ?_, .same rfl, .same rfl, .same rfl rfl rfl⟩
  rw [setSlot_slot]
  split
  · subst_vars; exact .inr ⟨m, g, row, st, h, rfl⟩
  · exact .inl rfl

/-- The grading of a TESTING or GRADED slot is a regrading. -/
theorem gradeRackSlot_regraded (i : SlotNo) (m : ModuleRecord) (g : Nat) (row : Option (Fin 16)) (s : State)
    (h : s.slots[i] = some m) : Regraded s (gradeRackSlot i m g row s) := by
  unfold gradeRackSlot
  split
  · exact setSlot_regraded i m m.grade row m.state s h
  · exact (((setSlot_regraded i m g row _ s h).trans (requestReport_regraded _ _)).trans
      ((applyEligibility_work i _).regraded (applyEligibility_emptied i _))).trans
        ((disturbFor_work i _).regraded (disturbFor_disturbed i _))

/-- The grading of an INSTALLED slot is a regrading. -/
theorem gradeInstalledSlot_regraded (i : SlotNo) (m : ModuleRecord) (ig : Nat) (drift : Bool) (g : Nat)
    (row : Option (Fin 16)) (s : State) (h : s.slots[i] = some m) :
    Regraded s (gradeInstalledSlot i m ig drift g row s) := by
  unfold gradeInstalledSlot
  split
  · exact setSlot_regraded i m m.grade row m.state s h
  · dsimp only
    split
    · exact setSlot_regraded i m g row _ s h
    · exact (setSlot_regraded i m g row _ s h).trans (requestReport_regraded _ _)

/-- An evaluation is a regrading. -/
theorem evaluateSlot_regraded (i : SlotNo) (s : State) : Regraded s (evaluateSlot i s) := by
  unfold evaluateSlot evaluateSlotNow
  split <;> [skip; split] <;> [skip; skip; split]
  all_goals first
    | exact .refl s
    | exact requestReport_regraded _ _
    | exact gradeRackSlot_regraded _ _ _ _ _ ‹_›
    | exact gradeInstalledSlot_regraded _ _ _ _ _ _ _ ‹_›

/-- The re-evaluation of all slots is a regrading. -/
theorem evaluateAll_regraded (s : State) : Regraded s (evaluateAll s) :=
  Regraded.foldl _ (fun s i => evaluateSlot_regraded i s) _ s

/-- An evaluation of one slot leaves the records of the others. -/
theorem evaluateSlot_others (i j : SlotNo) (s : State) (h : j ≠ i) : (evaluateSlot i s).slots[j] = s.slots[j] := by
  have ne : ¬ i = j := fun e => h e.symm
  unfold evaluateSlot evaluateSlotNow
  split <;> [skip; split] <;> [skip; skip; split]
  all_goals first
    | rfl
    | simp only [requestReport_keeps]
    | (simp only [gradeRackSlot, gradeInstalledSlot]
       split <;> [skip; (try split)] <;>
         simp only [(disturbFor_work _ _).fields, (applyEligibility_work _ _).fields, requestReport_keeps,
           setSlot_slot, if_neg ne])

/-! ## Work on a sample -/

/-- What work on a slot's figures, grade or quarantine does: no slot is admitted or withdrawn and only the slot's own
record changes, no place is fixed, unfixed or filled, the run may be disturbed, and reports may be requested. -/
structure Worked (i : SlotNo) (s t : State) : Prop where
  work : SlotWork s t
  occupied : t.slots[i].isSome = s.slots[i].isSome
  others : ∀ j : SlotNo, j ≠ i → t.slots[j] = s.slots[j]
  places : ∀ p : PlaceNo, t.places[p].fixed = s.places[p].fixed ∧
    (t.places[p].slot = s.places[p].slot ∨ t.places[p].slot = none)
  run : Disturbed s t
  reported : Reported s t

/-- Worked relates a state to itself. -/
theorem Worked.refl (i : SlotNo) (s : State) : Worked i s s :=
  ⟨.refl s, rfl, fun _ _ => rfl, fun _ => ⟨rfl, .inl rfl⟩, .same rfl, .refl s⟩

/-- Worked composes. -/
theorem Worked.trans {i : SlotNo} {s t u : State} (h : Worked i s t) (k : Worked i t u) : Worked i s u := by
  refine ⟨h.work.trans k.work, k.occupied.trans h.occupied, fun j hj => (k.others j hj).trans (h.others j hj),
    fun p => ⟨(k.places p).1.trans (h.places p).1, ?_⟩, h.run.trans k.run, h.reported.trans k.reported⟩
  rcases (k.places p).2 with hp | hp
  · rw [hp]; exact (h.places p).2
  · exact .inr hp

/-- A regrading that leaves the other slots is work on the slot. -/
theorem Regraded.worked {i : SlotNo} {s t : State} (h : Regraded s t)
    (k : ∀ j : SlotNo, j ≠ i → t.slots[j] = s.slots[j]) : Worked i s t := by
  refine ⟨h.work, ?_, k, fun p => ⟨(h.places p).1, (h.places p).2.2⟩, h.run, h.reported⟩
  rcases h.slots i with hi | ⟨m, g, row, st, hm, hi⟩
  · rw [hi]
  · rw [hi, hm]; rfl

/-- Writing the record of an occupied slot is work on it. -/
theorem setSlot_worked (i : SlotNo) (m : ModuleRecord) (s : State) (h : s.slots[i].isSome = true) :
    Worked i s (setSlot i (some m) s) := by
  refine ⟨rfl, ?_, fun j hj => ?_, fun _ => ⟨rfl, .inl rfl⟩, .same rfl, .same rfl rfl rfl⟩
  · rw [setSlot_slot, if_pos rfl, h]; rfl
  · rw [setSlot_slot, if_neg fun e => hj e.symm]

/-- Changing the record of a slot is work on it. -/
theorem updateSlot_worked (i : SlotNo) (f : ModuleRecord → ModuleRecord) (s : State) :
    Worked i s (updateSlot i f s) := by
  refine ⟨rfl, ?_, fun j hj => ?_, fun _ => ⟨rfl, .inl rfl⟩, .same rfl, .same rfl rfl rfl⟩
  · rw [updateSlot_slot, if_pos rfl, Option.isSome_map]
  · rw [updateSlot_slot, if_neg fun e => hj e.symm]

/-- A report request is work on any slot. -/
theorem requestReport_worked (i : SlotNo) (r : Report) (s : State) : Worked i s (requestReport r s) :=
  (requestReport_regraded r s).worked fun _ _ => by simp

/-- An evaluation of a slot is work on it. -/
theorem evaluateSlot_worked (i : SlotNo) (s : State) : Worked i s (evaluateSlot i s) :=
  (evaluateSlot_regraded i s).worked fun j hj => evaluateSlot_others i j s hj

/-- The review test of a slot is work on it. -/
theorem reviewTest_worked (i : SlotNo) (s : State) : Worked i s (reviewTest i s) :=
  ((reviewTest_work i s).regraded (.same (reviewTest_places i s))).worked fun _ _ => by
    simp only [(reviewTest_work i s).fields]

/-- Leaving a place is work on the slot. -/
theorem leavePlace_worked (i : SlotNo) (s : State) : Worked i s (leavePlace i s) :=
  ((leavePlace_work i s).regraded (leavePlace_emptied i s)).worked fun _ _ => by simp only [(leavePlace_work i s).fields]

/-- Disturbing a run for a slot is work on it. -/
theorem disturbFor_worked (i : SlotNo) (s : State) : Worked i s (disturbFor i s) :=
  ((disturbFor_work i s).regraded (disturbFor_disturbed i s)).worked fun _ _ => by
    simp only [(disturbFor_work i s).fields]

/-- Disturbing a run for figures is work on the slot. -/
theorem disturbForFigures_worked (i : SlotNo) (s : State) : Worked i s (disturbForFigures i s) :=
  ((disturbForFigures_work i s).regraded (disturbForFigures_disturbed i s)).worked fun _ _ => by
    simp only [(disturbForFigures_work i s).fields]

/-- A choice between two kinds of work on a slot is work on it. -/
theorem Worked.ite {i : SlotNo} {s t u : State} {c : Prop} [Decidable c] (h : Worked i s t) (k : Worked i s u) :
    Worked i s (if c then t else u) := by
  split
  · exact h
  · exact k

/-- Handing figures on is work on the slot. -/
theorem handOn_worked (i : SlotNo) (kinds : List FigureKind) (first : Bool) (s : State) :
    Worked i s (handOn i kinds first s) := by
  have step1 := (updateSlot_worked i (fun m => { m with restored := false }) s).trans
    (requestReport_worked i (.figure i (figureSet kinds)) _)
  exact ((step1.trans (.ite (.refl i _) (evaluateSlot_worked i _))).trans
    (.ite (reviewTest_worked i _) (.refl i _))).trans (.ite (disturbForFigures_worked i _) (.refl i _))

/-- The work on a delivery is work on the slot. -/
theorem deliver_worked (i : SlotNo) (d : Delivery) (first : Bool) (s : State) : Worked i s (deliver i d first s) := by
  unfold deliver
  split
  · exact .refl i s
  · exact .refl i s
  · rename_i h _
    exact (setSlot_worked i _ s (by rw [h]; rfl)).trans (handOn_worked i _ first _)

/-- A quarantine's effect on the place is work on the slot. -/
theorem quarantinePlace_worked (i : SlotNo) (s : State) : Worked i s (quarantinePlace i s) := by
  unfold quarantinePlace
  split <;> [skip; split]
  · exact .refl i s
  · refine ⟨rfl, rfl, fun _ _ => rfl, fun q => ?_, .same rfl, .same rfl rfl rfl⟩
    rw [updatePlace_place]
    split <;> exact ⟨rfl, .inl rfl⟩
  · exact leavePlace_worked i s

/-- A quarantine is work on the slot. -/
theorem quarantineSlot_worked (i : SlotNo) (reason : QuarantineReason) (m : ModuleRecord) (s : State)
    (h : s.slots[i].isSome = true) : Worked i s (quarantineSlot i reason m s) :=
  (((setSlot_worked i _ s h).trans (quarantinePlace_worked i _)).trans (requestReport_worked i _ _)).trans
    (disturbFor_worked i _)

/-- The work on a sample is work on its slot. -/
theorem workSample_worked (i : SlotNo) (x : ClampedSample) (s : State) : Worked i s (workSample i x s) := by
  unfold workSample
  split
  · exact .refl i s
  · rename_i h
    have occ : s.slots[i].isSome = true := by rw [h]; rfl
    split
    · dsimp only
      split
      · exact quarantineSlot_worked i _ _ s occ
      · exact (setSlot_worked i _ s occ).trans (deliver_worked i _ _ _)
    · exact .refl i s

/-- The work on a channel entry is work on a slot, or nothing. -/
theorem workEntry_worked (node : Nat) (payload : List Byte) (k : Nat) (s : State) :
    workEntry node payload k s = s ∨ ∃ i, Worked i s (workEntry node payload k s) := by
  unfold workEntry
  split <;> [split; skip]
  · exact .inl rfl
  · exact .inr ⟨_, workSample_worked _ _ s⟩
  · exact .inl rfl

/-! ## Idle ports -/

/-- Starting the down-port is work on the ports. -/
theorem startDownPort_work (s : State) : PortWork s (startDownPort s) := by
  unfold startDownPort PortWork
  split <;> rfl

/-- Starting the up-port is work on the ports. -/
theorem startUpPort_work (s : State) : PortWork s (startUpPort s) := by
  unfold startUpPort arbitrate PortWork
  split <;> [skip; split] <;> [skip; skip; skip; split; skip; skip] <;> rfl

/-- Starting the idle ports is work on the ports. -/
theorem startPorts_work (s : State) : PortWork s (startPorts s) := by
  unfold startPorts
  split
  · exact (startDownPort_work s).trans (startUpPort_work _)
  · exact .refl s

/-- Starting the idle ports lengthens no queue. -/
theorem startPorts_queues (s : State) :
    (startPorts s).upQueue.length ≤ s.upQueue.length ∧ (startPorts s).dnQueue.length ≤ s.dnQueue.length ∧
      (startPorts s).reports.Sublist s.reports ∧ (s.arbiterCount ≤ 2 → (startPorts s).arbiterCount ≤ 2) := by
  have down : (startDownPort s).upQueue = s.upQueue ∧ (startDownPort s).dnQueue.length ≤ s.dnQueue.length ∧
      (startDownPort s).reports = s.reports ∧ (startDownPort s).arbiterCount = s.arbiterCount := by
    unfold startDownPort
    split <;> simp_all
  have up : ∀ t : State, (startUpPort t).upQueue.length ≤ t.upQueue.length ∧ (startUpPort t).dnQueue = t.dnQueue ∧
      (startUpPort t).reports.Sublist t.reports ∧ (t.arbiterCount ≤ 2 → (startUpPort t).arbiterCount ≤ 2) := by
    intro t
    unfold startUpPort arbitrate
    split <;> [skip; split] <;> [skip; skip; skip; split; skip; skip] <;>
      simp_all [sendAnswer, sendReport, sendForwarded, List.tail_sublist]
  unfold startPorts
  split
  · obtain ⟨d1, d2, d3, d4⟩ := down
    obtain ⟨u1, u2, u3, u4⟩ := up (startDownPort s)
    rw [d1] at u1
    rw [d3] at u3
    rw [d4] at u4
    exact ⟨u1, u2 ▸ d2, u3, u4⟩
  · exact ⟨le_rfl, le_rfl, .refl _, id⟩

end Sys2Proof.Machine
end

