-- ==== Sys2Proof/Laws/Directive.lean ====
section
/-! SUPPORT. The taking and answering of a directive, said once: when a frame is taken, what its rule answers, and what
every step answers. -/

namespace Sys2Proof.Machine

/-- A frame is taken exactly when `takeDirective` gives a state; the marks are consumed on it. -/
theorem taken_iff (d : DirectiveFrame) (s t : State) :
    Taken d s t ↔ ∃ u, takeDirective d s = some u ∧ t = consumeMarks u := by
  unfold Taken takeDirective canTake consumeMarks
  constructor
  · rintro ⟨h1, h2, h3, ⟨rest, hq, rfl⟩ | ⟨hq, hl, rfl⟩⟩
    · simp [h1, h2, h3, hq]
    · simp [h1, h2, h3, hq, Config.maxPayload, hl]
  · rintro ⟨u, hu, rfl⟩
    split at hu <;> [skip; cases hu]
    rename_i hc
    simp only [Bool.and_eq_true, bne_iff_ne, ne_eq, Option.isNone_iff_eq_none, Bool.not_eq_true'] at hc
    refine ⟨hc.1.1, hc.1.2, hc.2, ?_⟩
    split at hu <;> split at hu <;> cases hu
    · exact .inr ⟨‹_›, ‹_›, rfl⟩
    · rename_i hq he
      exact .inl ⟨_, he ▸ hq, rfl⟩

/-- A directive that is not taken leaves the state. -/
theorem runDirective_untaken (tag : Byte) (code : Nat) (params : List Byte) (b : Bool) (rule : State → Reply State)
    (s : State) (h : ∀ t, ¬ Taken { tag := tag, payload := BitVec.ofNat 8 code :: params } s t) :
    runDirective tag code params b rule s = s := by
  unfold runDirective
  split
  · rfl
  · rename_i u hu
    exact absurd ((taken_iff _ _ _).2 ⟨u, hu, rfl⟩) (h _)

/-- A taken directive is checked and acted on, and its answer is placed. -/
theorem runDirective_taken {tag : Byte} {code : Nat} {params : List Byte} {s t : State} (b : Bool)
    (rule : State → Reply State) (h : Taken { tag := tag, payload := BitVec.ofNat 8 code :: params } s t) :
    runDirective tag code params b rule s =
      startPorts (placeAnswer tag (BitVec.ofNat 8 code) (checkDirective code params b rule t)) := by
  obtain ⟨u, hu, rfl⟩ := (taken_iff _ _ _).1 h
  simp only [runDirective, hu]

/-- The fields of the state once a directive is taken. -/
theorem Taken.fields {d : DirectiveFrame} {s t : State} (h : Taken d s t) :
    t = { s with
      directiveQueue := t.directiveQueue
      patternCount := t.patternCount
      upReceiving := t.upReceiving
      fieldMask := none
      purgeEnable := false } := by
  obtain ⟨-, -, -, ⟨rest, -, rfl⟩ | ⟨-, -, rfl⟩⟩ := h <;> rfl

/-- A directive taken while ACTIVE leaves the engine ACTIVE. -/
theorem Heard.active {tag : Byte} {code : Nat} {params : List Byte} {s t : State} (h : Heard tag code params s t) :
    t.engine = .active := by
  rw [h.1.fields]
  exact h.2

/-- A directive taken while ACTIVE with parameters of its length is answered by its rule. -/
theorem runDirective_heard {tag : Byte} {code : Nat} {params : List Byte} {s t : State} (b : Bool)
    (rule : State → Reply State) (h : Heard tag code params s t)
    (hl : ∀ n, parameterLength code = some (some n) → params.length = n) :
    runDirective tag code params b rule s =
      answered tag code (rule t).outcome (rule t).data (rule t).state := by
  rw [runDirective_taken b rule h.1]
  have : checkDirective code params b rule t = rule t := by
    simp only [checkDirective, h.active, ne_eq, not_true_eq_false, false_and, if_false]
    split
    · rw [if_pos (hl _ ‹_›)]
    · rfl
  rw [this]
  rfl

/-- A WRITE taken while ACTIVE, on its table with the length of its write form, is answered by the table's rule. -/
theorem runWrite_heard {tag : Byte} {params : List Byte} {s t : State} (table : Nat) (rule : State → Reply State)
    (h : Heard tag 20 params s t) (ht : s.pointer.table = table) (hl : writeFormLength table = some params.length) :
    runWrite table tag params rule s =
      if (rule t).outcome = .done then answered tag 20 .done (rule t).data (advancePointer 1 (rule t).state)
      else answered tag 20 (rule t).outcome (rule t).data (rule t).state := by
  have hp : t.pointer = s.pointer := by rw [h.1.fields]
  rw [runWrite, if_pos ht, show codeWrite = 20 from rfl, runDirective_heard false _ h (by simp [parameterLength])]
  simp only [writeEntry, hp, ht, hl, if_true]
  split
  · rename_i hd; rw [hd]
  · rfl

/-- Every command answers a next state. -/
theorem exec_next (c : Instr) (s : State) : ∃ t, exec c s = .next t := by
  cases c
  case endOfTransmission => simp only [exec, execEndOfTransmission]; split <;> exact ⟨_, rfl⟩
  case downPortTransmissionEnd => simp only [exec, execDownPortTransmissionEnd]; split <;> exact ⟨_, rfl⟩
  case opening => simp only [exec, execOpening]; split <;> [split; skip] <;> exact ⟨_, rfl⟩
  case filling => simp only [exec, execFilling]; split <;> [split; skip] <;> exact ⟨_, rfl⟩
  case completion => simp only [exec, execCompletion]; split <;> [split; skip] <;> exact ⟨_, rfl⟩
  case saveCompletion => simp only [exec, execSaveCompletion]; split <;> exact ⟨_, rfl⟩
  case certifyCompletion => simp only [exec, execCertifyCompletion]; split <;> exact ⟨_, rfl⟩
  all_goals exact ⟨_, rfl⟩

/-- Every step answers a next state. -/
theorem step_next (s : State) : Runs s := by
  unfold Runs step
  split
  · exact ⟨s, rfl⟩
  · exact exec_next _ _

end Sys2Proof.Machine
end

