-- ==== Sys2Proof/Laws/PerInstr.lean ====
section
/-! SUPPORT. Facts about every command as syntax, one lemma for each constructor of Instr. -/

namespace Sys2Proof.Laws

open Sys2Proof.Machine

/-- The length of a field of `n` bytes. -/
theorem toBytes_length (n v : Nat) : (toBytes n v).length = n := by
  induction n generalizing v with
  | zero => rfl
  | succ n ih => simp [toBytes, ih]

/-- A built frame has 6 bytes beside its payload. -/
theorem buildFrame_length (kind address : Nat) (tag : Byte) (payload : List Byte) :
    (buildFrame kind address tag payload).length = payload.length + 6 := by
  simp only [buildFrame, List.length_append, toBytes_length, List.length_singleton]
  omega

/-- The frame of a well-formed directive row fits on the chain (R139; spec/12, Frame). -/
def FrameFits.Statement (i : Instr) : Prop :=
  i.wellFormed = true → ∀ (tag : Byte) (payload : List Byte) (address : Nat),
    i.directiveFrame = some (tag, payload) →
      (buildFrame kindDirective address tag payload).length ≤ Config.maxFrameBytes

/-- A row with no directive frame. -/
theorem frameFits_of_none (i : Instr) (h : i.directiveFrame = none) : FrameFits.Statement i := by
  intro _ tag payload address hf
  rw [h] at hf
  cases hf

/-- A row that takes one of the 33 directives. -/
theorem frameFits_of_directive (i : Instr) (tag : Byte) (code : Nat) (params : List Byte)
    (h : i.directiveFrame = some (tag, BitVec.ofNat 8 code :: params))
    (w : i.wellFormed = decide (params.length + 1 ≤ Config.maxPayload)) : FrameFits.Statement i := by
  intro hw tag' payload address hf
  rw [h] at hf
  cases hf
  rw [w, decide_eq_true_iff] at hw
  simp only [buildFrame_length, List.length_cons, Config.maxPayload, Config.maxFrameBytes] at *
  omega

/-- FrameFits of powerOn. -/
theorem FrameFits.powerOn : FrameFits.Statement .powerOn :=
  frameFits_of_none _ rfl

/-- FrameFits of resetLine. -/
theorem FrameFits.resetLine : FrameFits.Statement .resetLine :=
  frameFits_of_none _ rfl

/-- FrameFits of startUp. -/
theorem FrameFits.startUp (straps : BitVec 5) (elapsed : Nat) : FrameFits.Statement (.startUp straps elapsed) :=
  frameFits_of_none _ rfl

/-- FrameFits of lineBreak. -/
theorem FrameFits.lineBreak (pol : Polarity) (start stop idle : Nat) : FrameFits.Statement (.lineBreak pol start stop idle) :=
  frameFits_of_none _ rfl

/-- FrameFits of downPortArrival. -/
theorem FrameFits.downPortArrival (elapsed : Nat) (bytes : Frame) : FrameFits.Statement (.downPortArrival elapsed bytes) :=
  frameFits_of_none _ rfl

/-- FrameFits of upPortArrival. -/
theorem FrameFits.upPortArrival (bytes : Frame) : FrameFits.Statement (.upPortArrival bytes) :=
  frameFits_of_none _ rfl

/-- FrameFits of endOfTransmission. -/
theorem FrameFits.endOfTransmission : FrameFits.Statement .endOfTransmission :=
  frameFits_of_none _ rfl

/-- FrameFits of downPortTransmissionEnd. -/
theorem FrameFits.downPortTransmissionEnd : FrameFits.Statement .downPortTransmissionEnd :=
  frameFits_of_none _ rfl

/-- FrameFits of nodeSilence. -/
theorem FrameFits.nodeSilence (node : Nat) (elapsed : Nat) : FrameFits.Statement (.nodeSilence node elapsed) :=
  frameFits_of_none _ rfl

/-- FrameFits of identify. -/
theorem FrameFits.identify (tag : Byte) (params : List Byte) : FrameFits.Statement (.identify tag params) :=
  frameFits_of_directive _ tag _ params rfl rfl

/-- FrameFits of status. -/
theorem FrameFits.status (tag : Byte) (params : List Byte) : FrameFits.Statement (.status tag params) :=
  frameFits_of_directive _ tag _ params rfl rfl

/-- FrameFits of statusClear. -/
theorem FrameFits.statusClear (tag : Byte) (params : List Byte) : FrameFits.Statement (.statusClear tag params) :=
  frameFits_of_directive _ tag _ params rfl rfl

/-- FrameFits of reportMask. -/
theorem FrameFits.reportMask (tag : Byte) (params : List Byte) : FrameFits.Statement (.reportMask tag params) :=
  frameFits_of_directive _ tag _ params rfl rfl

/-- FrameFits of restart. -/
theorem FrameFits.restart (tag : Byte) (params : List Byte) : FrameFits.Statement (.restart tag params) :=
  frameFits_of_directive _ tag _ params rfl rfl

/-- FrameFits of bypass. -/
theorem FrameFits.bypass (tag : Byte) (params : List Byte) : FrameFits.Statement (.bypass tag params) :=
  frameFits_of_directive _ tag _ params rfl rfl

/-- FrameFits of wake. -/
theorem FrameFits.wake (tag : Byte) (params : List Byte) : FrameFits.Statement (.wake tag params) :=
  frameFits_of_directive _ tag _ params rfl rfl

/-- FrameFits of purgeEnable. -/
theorem FrameFits.purgeEnable (tag : Byte) (params : List Byte) : FrameFits.Statement (.purgeEnable tag params) :=
  frameFits_of_directive _ tag _ params rfl rfl

/-- FrameFits of purge. -/
theorem FrameFits.purge (tag : Byte) (params : List Byte) : FrameFits.Statement (.purge tag params) :=
  frameFits_of_directive _ tag _ params rfl rfl

/-- FrameFits of seek. -/
theorem FrameFits.seek (tag : Byte) (params : List Byte) : FrameFits.Statement (.seek tag params) :=
  frameFits_of_directive _ tag _ params rfl rfl

/-- FrameFits of read. -/
theorem FrameFits.read (tag : Byte) (params : List Byte) : FrameFits.Statement (.read tag params) :=
  frameFits_of_directive _ tag _ params rfl rfl

/-- FrameFits of next. -/
theorem FrameFits.next (tag : Byte) (params : List Byte) : FrameFits.Statement (.next tag params) :=
  frameFits_of_directive _ tag _ params rfl rfl

/-- FrameFits of fieldMask. -/
theorem FrameFits.fieldMask (tag : Byte) (params : List Byte) : FrameFits.Statement (.fieldMask tag params) :=
  frameFits_of_directive _ tag _ params rfl rfl

/-- FrameFits of write. -/
theorem FrameFits.write (tag : Byte) (params : List Byte) : FrameFits.Statement (.write tag params) :=
  frameFits_of_directive _ tag _ params rfl rfl

/-- FrameFits of slotMapWrite. -/
theorem FrameFits.slotMapWrite (tag : Byte) (params : List Byte) : FrameFits.Statement (.slotMapWrite tag params) :=
  frameFits_of_directive _ tag _ params rfl rfl

/-- FrameFits of profileWrite. -/
theorem FrameFits.profileWrite (tag : Byte) (params : List Byte) : FrameFits.Statement (.profileWrite tag params) :=
  frameFits_of_directive _ tag _ params rfl rfl

/-- FrameFits of curveWrite. -/
theorem FrameFits.curveWrite (tag : Byte) (params : List Byte) : FrameFits.Statement (.curveWrite tag params) :=
  frameFits_of_directive _ tag _ params rfl rfl

/-- FrameFits of gradeRowWrite. -/
theorem FrameFits.gradeRowWrite (tag : Byte) (params : List Byte) : FrameFits.Statement (.gradeRowWrite tag params) :=
  frameFits_of_directive _ tag _ params rfl rfl

/-- FrameFits of bankMapWrite. -/
theorem FrameFits.bankMapWrite (tag : Byte) (params : List Byte) : FrameFits.Statement (.bankMapWrite tag params) :=
  frameFits_of_directive _ tag _ params rfl rfl

/-- FrameFits of settingsWrite. -/
theorem FrameFits.settingsWrite (tag : Byte) (params : List Byte) : FrameFits.Statement (.settingsWrite tag params) :=
  frameFits_of_directive _ tag _ params rfl rfl

/-- FrameFits of editOpen. -/
theorem FrameFits.editOpen (tag : Byte) (params : List Byte) : FrameFits.Statement (.editOpen tag params) :=
  frameFits_of_directive _ tag _ params rfl rfl

/-- FrameFits of editClose. -/
theorem FrameFits.editClose (tag : Byte) (params : List Byte) : FrameFits.Statement (.editClose tag params) :=
  frameFits_of_directive _ tag _ params rfl rfl

/-- FrameFits of editCancel. -/
theorem FrameFits.editCancel (tag : Byte) (params : List Byte) : FrameFits.Statement (.editCancel tag params) :=
  frameFits_of_directive _ tag _ params rfl rfl

/-- FrameFits of admitModule. -/
theorem FrameFits.admitModule (tag : Byte) (params : List Byte) : FrameFits.Statement (.admitModule tag params) :=
  frameFits_of_directive _ tag _ params rfl rfl

/-- FrameFits of withdraw. -/
theorem FrameFits.withdraw (tag : Byte) (params : List Byte) : FrameFits.Statement (.withdraw tag params) :=
  frameFits_of_directive _ tag _ params rfl rfl

/-- FrameFits of clearFigures. -/
theorem FrameFits.clearFigures (tag : Byte) (params : List Byte) : FrameFits.Statement (.clearFigures tag params) :=
  frameFits_of_directive _ tag _ params rfl rfl

/-- FrameFits of planRun. -/
theorem FrameFits.planRun (tag : Byte) (params : List Byte) : FrameFits.Statement (.planRun tag params) :=
  frameFits_of_directive _ tag _ params rfl rfl

/-- FrameFits of planHold. -/
theorem FrameFits.planHold (tag : Byte) (params : List Byte) : FrameFits.Statement (.planHold tag params) :=
  frameFits_of_directive _ tag _ params rfl rfl

/-- FrameFits of planResume. -/
theorem FrameFits.planResume (tag : Byte) (params : List Byte) : FrameFits.Statement (.planResume tag params) :=
  frameFits_of_directive _ tag _ params rfl rfl

/-- FrameFits of planAbort. -/
theorem FrameFits.planAbort (tag : Byte) (params : List Byte) : FrameFits.Statement (.planAbort tag params) :=
  frameFits_of_directive _ tag _ params rfl rfl

/-- FrameFits of opening. -/
theorem FrameFits.opening : FrameFits.Statement .opening :=
  frameFits_of_none _ rfl

/-- FrameFits of filling. -/
theorem FrameFits.filling : FrameFits.Statement .filling :=
  frameFits_of_none _ rfl

/-- FrameFits of completion. -/
theorem FrameFits.completion : FrameFits.Statement .completion :=
  frameFits_of_none _ rfl

/-- FrameFits of fix. -/
theorem FrameFits.fix (tag : Byte) (params : List Byte) : FrameFits.Statement (.fix tag params) :=
  frameFits_of_directive _ tag _ params rfl rfl

/-- FrameFits of unfix. -/
theorem FrameFits.unfix (tag : Byte) (params : List Byte) : FrameFits.Statement (.unfix tag params) :=
  frameFits_of_directive _ tag _ params rfl rfl

/-- FrameFits of fixAll. -/
theorem FrameFits.fixAll (tag : Byte) (params : List Byte) : FrameFits.Statement (.fixAll tag params) :=
  frameFits_of_directive _ tag _ params rfl rfl

/-- FrameFits of unfixAll. -/
theorem FrameFits.unfixAll (tag : Byte) (params : List Byte) : FrameFits.Statement (.unfixAll tag params) :=
  frameFits_of_directive _ tag _ params rfl rfl

/-- FrameFits of storeEnable. -/
theorem FrameFits.storeEnable (tag : Byte) (params : List Byte) : FrameFits.Statement (.storeEnable tag params) :=
  frameFits_of_directive _ tag _ params rfl rfl

/-- FrameFits of storeDisable. -/
theorem FrameFits.storeDisable (tag : Byte) (params : List Byte) : FrameFits.Statement (.storeDisable tag params) :=
  frameFits_of_directive _ tag _ params rfl rfl

/-- FrameFits of storeSave. -/
theorem FrameFits.storeSave (tag : Byte) (params : List Byte) : FrameFits.Statement (.storeSave tag params) :=
  frameFits_of_directive _ tag _ params rfl rfl

/-- FrameFits of saveCompletion. -/
theorem FrameFits.saveCompletion : FrameFits.Statement .saveCompletion :=
  frameFits_of_none _ rfl

/-- FrameFits of storeLoad. -/
theorem FrameFits.storeLoad (tag : Byte) (params : List Byte) : FrameFits.Statement (.storeLoad tag params) :=
  frameFits_of_directive _ tag _ params rfl rfl

/-- FrameFits of certify. -/
theorem FrameFits.certify (tag : Byte) (params : List Byte) : FrameFits.Statement (.certify tag params) :=
  frameFits_of_directive _ tag _ params rfl rfl

/-- FrameFits of certifyCompletion. -/
theorem FrameFits.certifyCompletion : FrameFits.Statement .certifyCompletion :=
  frameFits_of_none _ rfl

/-- FrameFits of unknown. -/
theorem FrameFits.unknown (tag : Byte) (payload : List Byte) : FrameFits.Statement (.unknown tag payload) := by
  intro hw tag' payload' address hf
  cases hf
  simp only [Instr.wellFormed, Bool.and_eq_true, decide_eq_true_iff] at hw
  simp only [buildFrame_length, Config.maxPayload, Config.maxFrameBytes] at *
  omega

/-- FrameFits of resetLineHeldLow. -/
theorem FrameFits.resetLineHeldLow : FrameFits.Statement .resetLineHeldLow :=
  frameFits_of_none _ rfl

/-- FrameFits of startSymbol. -/
theorem FrameFits.startSymbol (port : Port) : FrameFits.Statement (.startSymbol port) :=
  frameFits_of_none _ rfl

/-- FrameFits of departureFromIdle. -/
theorem FrameFits.departureFromIdle (pol : Polarity) (start stop idle : Nat) : FrameFits.Statement (.departureFromIdle pol start stop idle) :=
  frameFits_of_none _ rfl

/-- FrameFits of breakAtDnRx. -/
theorem FrameFits.breakAtDnRx : FrameFits.Statement .breakAtDnRx :=
  frameFits_of_none _ rfl

end Sys2Proof.Laws
end

