-- ==== Sys2Proof/Laws/Places.lean ====
section
/-! SUPPORT. What keeps places, slots and string records consistent: the geometry of positions, and one law for each
operation that moves, grades, quarantines, fixes or unfixes a slot. -/

namespace Sys2Proof.Machine

/-! ## The places of a position -/

/-- The places of a position by number. -/
theorem mem_placesOf (b : BankString) (pos : Nat) (p : PlaceNo) :
    p ∈ b.placesOf pos ↔ (b.kind = .single ∧ p.val = b.first + pos) ∨
      (b.kind = .paired ∧ (p.val = b.first + 2 * pos ∨ p.val = b.first + 2 * pos + 1)) := by
  unfold BankString.placesOf placeNumber
  have h : ∀ n : Nat, (∃ a : n < 64, p = (⟨n, a⟩ : Fin 64)) ↔ p.val = n := fun n =>
    ⟨fun ⟨a, e⟩ => by rw [e], fun e => ⟨by omega, Fin.ext e⟩⟩
  cases b.kind <;> simp [eq_comm, h]

/-- An owned place lies in the span of its string. -/
theorem ownsPlace.span {b : BankMap} {i : StringNo} {pos : Nat} {p : PlaceNo} (h : ownsPlace b i pos p) :
    b[i].first ≤ p.val ∧ p.val < b[i].first + b[i].span := by
  obtain ⟨-, hc, hp⟩ := h
  rw [mem_placesOf] at hp
  unfold BankString.span
  rcases hp with ⟨hk, hp⟩ | ⟨hk, hp⟩ <;> rw [hk] <;> simp only <;> omega

/-- A place of a sound bank has one owner. -/
theorem ownsPlace.unique {b : BankMap} (hb : BankSound b) {i j : StringNo} {x y : Nat} {p : PlaceNo}
    (h : ownsPlace b i x p) (k : ownsPlace b j y p) : i = j ∧ x = y := by
  have hij : i = j := by
    by_contra hne
    have a := h.span
    have c := k.span
    rcases hb.apart i j hne h.1 k.1 with g | g <;> omega
  subst hij
  have a := (mem_placesOf _ _ _).1 h.2.2
  have c := (mem_placesOf _ _ _).1 k.2.2
  refine ⟨rfl, ?_⟩
  rcases a with ⟨ka, a⟩ | ⟨ka, a⟩ <;> rcases c with ⟨kc, c⟩ | ⟨kc, c⟩ <;> first | omega | (rw [ka] at kc; cases kc)

/-- The owner that a place is found to have owns it. -/
theorem ownerOf_owns {b : BankMap} {p : PlaceNo} {i : StringNo} {pos : Nat} (h : ownerOf b p = some (i, pos)) :
    ownsPlace b i pos p := by
  unfold ownerOf at h
  obtain ⟨j, -, hj⟩ := List.exists_of_findSome?_eq_some h
  split at hj <;> [skip; cases hj]
  rename_i he
  obtain ⟨x, hx, hx2⟩ := List.exists_of_findSome?_eq_some hj
  split at hx2 <;> cases hx2
  rename_i hm
  exact ⟨he, List.mem_range.1 hx, List.contains_iff_mem.1 hm⟩

/-- An owned place is found to have an owner. -/
theorem ownsPlace.isSome {b : BankMap} {p : PlaceNo} {i : StringNo} {pos : Nat} (h : ownsPlace b i pos p) :
    ∃ o, ownerOf b p = some o := by
  rw [← Option.isSome_iff_exists]
  unfold ownerOf
  rw [List.findSome?_isSome_iff]
  refine ⟨i, List.mem_finRange i, ?_⟩
  rw [if_pos h.1, List.findSome?_isSome_iff]
  exact ⟨pos, List.mem_range.2 h.2.1, by rw [if_pos (List.contains_iff_mem.2 h.2.2)]; rfl⟩

/-- The owner of a place of a sound bank. -/
theorem ownsPlace.ownerOf {b : BankMap} (hb : BankSound b) {p : PlaceNo} {i : StringNo} {pos : Nat}
    (h : ownsPlace b i pos p) : ownerOf b p = some (i, pos) := by
  obtain ⟨⟨j, x⟩, ho⟩ := h.isSome
  obtain ⟨rfl, rfl⟩ := h.unique hb (ownerOf_owns ho)
  exact ho

/-- The place a slot is found in. -/
theorem placeOf_some {s : State} {i : SlotNo} {p : PlaceNo} (h : placeOf s i = some p) :
    s.places[p].slot = some i := by
  have := List.find?_some h
  simpa using this

/-- A slot that is found in no place stands in none. -/
theorem placeOf_none {s : State} {i : SlotNo} (h : placeOf s i = none) (p : PlaceNo) : s.places[p].slot ≠ some i := by
  have := (List.find?_eq_none.1 h) p (List.mem_finRange p)
  simpa using this

/-- The fixed mark of a position that owns a place, when its places are fixed together. -/
theorem positionFixed_iff (s : State) (i : StringNo) (pos : Nat) :
    positionFixed s i pos = true ↔ ∀ p ∈ s.bank[i].placesOf pos, s.places[p].fixed = true := by
  simp [positionFixed]

/-- A position is filled when each of its places is. -/
theorem positionFilled_iff (s : State) (i : StringNo) (pos : Nat) :
    positionFilled s i pos = true ↔ ∀ p ∈ s.bank[i].placesOf pos, s.places[p].slot.isSome = true := by
  simp [positionFilled]

/-- A position within the bank has all its places, each once. -/
theorem placesOf_full (b : BankString) (h : b.first + b.span ≤ 64) {pos : Nat} (hc : pos < b.count) :
    (b.placesOf pos).length = (if b.kind = .single then 1 else 2) ∧ (b.placesOf pos).Nodup := by
  unfold BankString.span at h
  unfold BankString.placesOf placeNumber
  cases hk : b.kind <;> rw [hk] at h <;> simp only at h
  · simp [show b.first + pos < 64 by omega]
  · simp [show b.first + 2 * pos < 64 by omega, show b.first + 2 * pos + 1 < 64 by omega]

/-! ## Places and slots, but for some slots -/

/-- What PlacesSound says of places, slots and string records, where the rule of non-fixed places need not hold for the slots
of `X`. -/
structure PlacesBut (X : SlotNo → Prop) (s : State) : Prop where
  once : ∀ (p q : PlaceNo) (i : SlotNo), s.places[p].slot = some i → s.places[q].slot = some i → p = q
  owned : ∀ p : PlaceNo, s.places[p].slot ≠ none ∨ s.places[p].fixed = true →
    ∃ string pos, ownsPlace s.bank string pos p
  together : ∀ string pos (p q : PlaceNo), ownsPlace s.bank string pos p → ownsPlace s.bank string pos q →
    s.places[p].fixed = s.places[q].fixed ∧ s.places[p].slot.isSome = s.places[q].slot.isSome
  fixed : ∀ p : PlaceNo, s.places[p].fixed = true →
    ∃ i m, s.places[p].slot = some i ∧ s.slots[i] = some m ∧ m.state.standsFixed
  free : ∀ string pos (p : PlaceNo) (i : SlotNo), ownsPlace s.bank string pos p → s.places[p].slot = some i →
    s.places[p].fixed = false → ¬ X i →
    ∃ m, s.slots[i] = some m ∧ m.state = .graded ∧ s.bank[string].gradeMask.getLsbD m.grade = true
  installed : ∀ (i : SlotNo) m g d, s.slots[i] = some m → m.state = .installed g d →
    ∃ p : PlaceNo, s.places[p].slot = some i ∧ s.places[p].fixed = true
  alarm : ∀ p : PlaceNo, s.places[p].alarm = true ↔ s.places[p].fixed = true ∧
    ∃ i m, s.places[p].slot = some i ∧ s.slots[i] = some m ∧ m.isQuarantined = true
  planned : ∀ i : StringNo, s.records[i].state = .planned → s.bank[i].enabled = true ∧
    ∀ pos (p : PlaceNo), ownsPlace s.bank i pos p → s.places[p].slot ≠ none

/-- What a slot record says to the bank: its state and grade. -/
def standing (v : Slot) : Option (ModuleState × Nat) := v.map fun m => (m.state, m.grade)

/-- A slot that says the same as an occupied one is occupied, with the same state and grade. -/
theorem standing_some {v w : Slot} {m : ModuleRecord} (h : standing w = standing v) (k : v = some m) :
    ∃ m', w = some m' ∧ m'.state = m.state ∧ m'.grade = m.grade := by
  subst k
  cases w with
  | none => cases h
  | some m' =>
    injection h with h
    injection h with h1 h2
    exact ⟨m', rfl, h1, h2⟩

/-- Whether a record is QUARANTINED is read from its state alone. -/
theorem isQuarantined_state {m m' : ModuleRecord} (h : m'.state = m.state) : m'.isQuarantined = m.isQuarantined := by
  simp [ModuleRecord.isQuarantined, h]

/-- PlacesBut speaks of the bank map, the places, the states and grades of slots, and the PLANNED records alone. -/
theorem PlacesBut.congr {X : SlotNo → Prop} {s t : State} (h : PlacesBut X s) (hb : t.bank = s.bank)
    (hp : t.places = s.places) (hs : ∀ i : SlotNo, standing t.slots[i] = standing s.slots[i])
    (hr : ∀ i : StringNo, t.records[i].state = .planned → s.records[i].state = .planned) : PlacesBut X t where
  once := by rw [hp]; exact h.once
  owned := by rw [hp, hb]; exact h.owned
  together := by rw [hp, hb]; exact h.together
  fixed := by
    rw [hp]
    intro p hf
    obtain ⟨i, m, h1, h2, h3⟩ := h.fixed p hf
    obtain ⟨m', k1, k2, -⟩ := standing_some (hs i) h2
    exact ⟨i, m', h1, k1, k2 ▸ h3⟩
  free := by
    rw [hp, hb]
    intro string pos p i ho h1 hf hx
    obtain ⟨m, h2, h3, h4⟩ := h.free string pos p i ho h1 hf hx
    obtain ⟨m', k1, k2, k3⟩ := standing_some (hs i) h2
    exact ⟨m', k1, k2.trans h3, by rw [k3]; exact h4⟩
  installed := by
    rw [hp]
    intro i m g d h1 h2
    obtain ⟨m', k1, k2, -⟩ := standing_some (hs i).symm h1
    exact h.installed i m' g d k1 (k2.trans h2)
  alarm := by
    rw [hp]
    intro p
    rw [h.alarm p]
    refine and_congr_right fun _ => ⟨?_, ?_⟩
    · rintro ⟨i, m, h1, h2, h3⟩
      obtain ⟨m', k1, k2, -⟩ := standing_some (hs i) h2
      exact ⟨i, m', h1, k1, (isQuarantined_state k2).trans h3⟩
    · rintro ⟨i, m, h1, h2, h3⟩
      obtain ⟨m', k1, k2, -⟩ := standing_some (hs i).symm h2
      exact ⟨i, m', h1, k1, (isQuarantined_state k2).trans h3⟩
  planned := by
    rw [hp, hb]
    exact fun i hi => h.planned i (hr i hi)

/-- More slots may be exempt. -/
theorem PlacesBut.mono {X Y : SlotNo → Prop} {s : State} (h : PlacesBut X s) (k : ∀ i, X i → Y i) : PlacesBut Y s :=
  { h with free := fun string pos p i ho h1 hf hy => h.free string pos p i ho h1 hf fun hx => hy (k i hx) }

/-- A slot in a non-fixed state stands in no fixed place. -/
theorem PlacesBut.notFixed {X : SlotNo → Prop} {s : State} (h : PlacesBut X s) {i : SlotNo} {m : ModuleRecord}
    (hm : s.slots[i] = some m) (hn : ¬ m.state.standsFixed) {p : PlaceNo} (hp : s.places[p].slot = some i) :
    s.places[p].fixed = false := by
  by_contra hf
  obtain ⟨j, m', h1, h2, h3⟩ := h.fixed p (by simpa using hf)
  rw [hp] at h1
  cases h1
  rw [hm] at h2
  cases h2
  exact hn h3

/-- Putting another record in a slot that no fixed place holds. -/
theorem PlacesBut.setSlot {X : SlotNo → Prop} {s : State} (h : PlacesBut X s) {i : SlotNo} {v : Slot}
    (hf : ∀ p : PlaceNo, s.places[p].slot = some i → s.places[p].fixed = false)
    (hx : (∀ p : PlaceNo, s.places[p].slot ≠ some i) ∨ X i)
    (hi : ∀ m g d, v = some m → m.state ≠ .installed g d) : PlacesBut X (setSlot i v s) where
  once := h.once
  owned := h.owned
  together := h.together
  fixed := by
    intro p (hp : s.places[p].fixed = true)
    obtain ⟨j, m, h1, h2, h3⟩ := h.fixed p hp
    refine ⟨j, m, h1, ?_, h3⟩
    rw [setSlot_slot, if_neg, h2]
    rintro rfl
    rw [hf p h1] at hp
    cases hp
  free := by
    intro string pos p j ho h1 hp hxj
    rw [setSlot_slot, if_neg]
    · exact h.free string pos p j ho h1 hp hxj
    · rintro rfl
      rcases hx with hx | hx
      · exact hx p h1
      · exact hxj hx
  installed := by
    intro j m g d h1 h2
    rw [setSlot_slot] at h1
    split at h1
    · exact absurd h2 (hi m g d h1)
    · exact h.installed j m g d h1 h2
  alarm := by
    intro p
    rw [show (Machine.setSlot i v s).places = s.places from rfl, h.alarm p]
    refine and_congr_right fun hp => exists_congr fun j => exists_congr fun m => and_congr_right fun h1 => ?_
    rw [setSlot_slot, if_neg]
    rintro rfl
    rw [hf p h1] at hp
    cases hp
  planned := h.planned

/-- The places and records after emptying a position. -/
theorem emptyPosition_place (i : StringNo) (pos : Nat) (s : State) (p : PlaceNo) :
    (emptyPosition i pos s).places[p] =
      if p ∈ s.bank[i].placesOf pos then { s.places[p] with slot := none } else s.places[p] :=
  updatePlaces_place (s.bank[i].placesOf pos) (fun q => { q with slot := none }) (fun _ => rfl) s p

/-- The string records after changing one. -/
theorem updateRecord_record (i j : StringNo) (f : StringRecord → StringRecord) (s : State) :
    (updateRecord i f s).records[j] = if i = j then f s.records[j] else s.records[j] := by
  simp only [updateRecord, Fin.getElem_fin, Vector.getElem_set, Fin.ext_iff]
  split
  · rename_i h; simp [h]
  · rfl

/-- The string records after emptying a position. -/
theorem emptyPosition_record (i j : StringNo) (pos : Nat) (s : State) :
    (emptyPosition i pos s).records[j] =
      if i = j then noteLeave (clearReview pos s.records[j]) else s.records[j] := by
  unfold emptyPosition
  rw [updateRecord_record, updatePlaces_records]

/-- Emptying a non-fixed position of an enabled string. -/
theorem PlacesBut.emptyPosition {X : SlotNo → Prop} {s : State} (h : PlacesBut X s) (hb : BankSound s.bank)
    {i : StringNo} {pos : Nat} {q : PlaceNo} (ho : ownsPlace s.bank i pos q) (hf : s.places[q].fixed = false) :
    PlacesBut X (emptyPosition i pos s) := by
  have hw := (emptyPosition_work i pos s).fields
  have bank : (Machine.emptyPosition i pos s).bank = s.bank := by simp only [hw]
  have slots : (Machine.emptyPosition i pos s).slots = s.slots := by simp only [hw]
  have emp := emptyPosition_emptied i pos s
  have own : ∀ p ∈ s.bank[i].placesOf pos, ownsPlace s.bank i pos p := fun p hp => ⟨ho.1, ho.2.1, hp⟩
  have nf : ∀ p ∈ s.bank[i].placesOf pos, s.places[p].fixed = false := fun p hp => by
    rw [(h.together i pos p q (own p hp) ho).1, hf]
  have sub : ∀ (p : PlaceNo) j, (Machine.emptyPosition i pos s).places[p].slot = some j → s.places[p].slot = some j := by
    intro p j hj
    rcases (emp p).2.2 with e | e
    · rw [← e]; exact hj
    · rw [e] at hj; cases hj
  have keep : ∀ p : PlaceNo, p ∉ s.bank[i].placesOf pos → (Machine.emptyPosition i pos s).places[p] = s.places[p] := fun p hp => by
    rw [emptyPosition_place, if_neg hp]
  have fx : ∀ p : PlaceNo, s.places[p].fixed = true → (Machine.emptyPosition i pos s).places[p] = s.places[p] := fun p hp =>
    keep p fun hm => by rw [nf p hm] at hp; cases hp
  refine ⟨?_, ?_, ?_, ?_, ?_, ?_, ?_, ?_⟩
  · exact fun p q' j h1 h2 => h.once p q' j (sub p j h1) (sub q' j h2)
  · rw [bank]
    intro p hp
    refine h.owned p (hp.imp (fun hn => ?_) fun hfx => (emp p).1 ▸ hfx)
    intro hs
    rcases (emp p).2.2 with e | e
    · exact hn (e.trans hs)
    · exact hn e
  · rw [bank]
    intro string x p p' hp hp'
    rw [(emp p).1, (emp p').1]
    refine ⟨(h.together _ _ _ _ hp hp').1, ?_⟩
    by_cases hm : p ∈ s.bank[i].placesOf pos
    · obtain ⟨rfl, rfl⟩ := hp.unique hb (own p hm)
      rw [emptyPosition_place, emptyPosition_place, if_pos hm, if_pos hp'.2.2]
    · have hm' : p' ∉ s.bank[i].placesOf pos := fun hm' => by
        obtain ⟨rfl, rfl⟩ := hp'.unique hb (own p' hm')
        exact hm hp.2.2
      rw [keep p hm, keep p' hm']
      exact (h.together _ _ _ _ hp hp').2
  · intro p hp
    rw [(emp p).1] at hp
    rw [fx p hp, slots]
    exact h.fixed p hp
  · rw [bank, slots]
    intro string x p j hp h1 hfx hx
    exact h.free string x p j hp (sub p j h1) ((emp p).1 ▸ hfx) hx
  · rw [slots]
    intro j m g d h1 h2
    obtain ⟨p, k1, k2⟩ := h.installed j m g d h1 h2
    exact ⟨p, by rw [fx p k2]; exact ⟨k1, k2⟩⟩
  · intro p
    rw [slots]
    by_cases hp : s.places[p].fixed = true
    · rw [fx p hp]; exact h.alarm p
    · have ha : s.places[p].alarm ≠ true := fun ha => hp ((h.alarm p).1 ha).1
      rw [(emp p).1, (emp p).2.1]
      exact ⟨fun a => absurd a ha, fun a => absurd a.1 hp⟩
  · rw [bank]
    intro j hj
    rw [emptyPosition_record] at hj
    split at hj
    · exfalso
      revert hj
      unfold noteLeave clearReview
      split <;> simp_all
    · rename_i hne
      obtain ⟨he, hfill⟩ := h.planned j hj
      refine ⟨he, fun x p hp => ?_⟩
      rw [keep p fun hm => hne ((own p hm).unique hb hp).1]
      exact hfill x p hp

/-- A slot leaves its place. -/
theorem PlacesBut.leavePlace {X : SlotNo → Prop} {s : State} (h : PlacesBut X s) (hb : BankSound s.bank) (i : SlotNo) :
    PlacesBut X (leavePlace i s) ∧
      ∀ p : PlaceNo, (leavePlace i s).places[p].slot = some i → s.places[p].slot = some i ∧ s.places[p].fixed = true := by
  unfold Machine.leavePlace
  split
  · rename_i hn
    exact ⟨h, fun p hp => absurd hp (placeOf_none hn p)⟩
  · rename_i q hq
    have hq := placeOf_some hq
    split
    · rename_i hf
      exact ⟨h, fun p hp => by rw [h.once p q i hp hq]; exact ⟨hq, hf⟩⟩
    · rename_i hf
      obtain ⟨string, pos, ho⟩ := h.owned q (.inl (by rw [hq]; nofun))
      rw [ho.ownerOf hb]
      refine ⟨h.emptyPosition hb ho (by simpa using hf), fun p hp => ?_⟩
      exfalso
      rw [emptyPosition_place] at hp
      split at hp
      · cases hp
      · rename_i hm
        exact hm (h.once p q i hp hq ▸ ho.2.2)

/-- The eligibility rule brings the slot back under the rule of non-fixed places. -/
theorem PlacesBut.applyEligibility {X : SlotNo → Prop} {s : State} (h : PlacesBut X s) (hb : BankSound s.bank) (i : SlotNo) :
    PlacesBut (fun j => X j ∧ j ≠ i) (applyEligibility i s) := by
  have lift : ∀ {t : State}, PlacesBut X t →
      (∀ string pos (p : PlaceNo), ownsPlace t.bank string pos p → t.places[p].slot = some i → t.places[p].fixed = false →
        ∃ m, t.slots[i] = some m ∧ m.state = .graded ∧ t.bank[string].gradeMask.getLsbD m.grade = true) →
      PlacesBut (fun j => X j ∧ j ≠ i) t := fun k hi =>
    ⟨k.once, k.owned, k.together, k.fixed, (fun string pos p j ho h1 hf hx => by
      by_cases hj : j = i
      · subst hj; exact hi string pos p ho h1 hf
      · exact k.free string pos p j ho h1 hf fun hX => hx ⟨hX, hj⟩), k.installed, k.alarm, k.planned⟩
  unfold Machine.applyEligibility
  split
  · rename_i hn
    exact lift h fun _ _ p _ hp => absurd hp (placeOf_none hn p)
  · rename_i q hq
    have hq := placeOf_some hq
    obtain ⟨string, pos, ho⟩ := h.owned q (.inl (by rw [hq]; nofun))
    rw [ho.ownerOf hb]
    simp only
    split
    · rename_i he
      refine lift h fun string' pos' p hp h1 _ => ?_
      have := h.once p q i h1 hq
      subst this
      obtain ⟨rfl, rfl⟩ := hp.unique hb ho
      unfold eligibleIn at he
      split at he <;> [skip; cases he]
      rename_i m hm
      rw [Bool.and_eq_true, beq_iff_eq] at he
      exact ⟨m, hm, he⟩
    · obtain ⟨k1, k2⟩ := h.leavePlace hb i
      refine lift k1 fun _ _ p _ hp hf => ?_
      have a := k2 p hp
      rw [(leavePlace_emptied i s p).1, a.2] at hf
      cases hf

/-- The rule of non-fixed places holds again for a slot that stands in none. -/
theorem PlacesBut.drop {X : SlotNo → Prop} {s : State} (h : PlacesBut X s) {i : SlotNo}
    (hi : ∀ p : PlaceNo, s.places[p].slot = some i → s.places[p].fixed = true) : PlacesBut (fun j => X j ∧ j ≠ i) s :=
  ⟨h.once, h.owned, h.together, h.fixed, (fun string pos p j ho h1 hf hx => by
    by_cases hj : j = i
    · subst hj
      rw [hi p h1] at hf
      cases hf
    · exact h.free string pos p j ho h1 hf fun hX => hx ⟨hX, hj⟩), h.installed, h.alarm, h.planned⟩

/-- No slot is exempt. -/
abbrev PlacesAll (s : State) : Prop := PlacesBut (fun _ => False) s

/-- PlacesBut with no slot exempt. -/
theorem PlacesBut.all {X : SlotNo → Prop} {s : State} (h : PlacesBut X s) (k : ∀ i, ¬ X i) : PlacesAll s :=
  h.mono fun i hi => k i hi

/-- The record of a quarantined slot is QUARANTINED (R8). -/
theorem quarantinedRecord_quarantined (reason : QuarantineReason) (b : Bool) (m : ModuleRecord) :
    (quarantinedRecord reason b m).isQuarantined = true := rfl

/-- Quarantine of a slot. -/
theorem PlacesBut.quarantine {s : State} (h : PlacesAll s) (hb : BankSound s.bank) (i : SlotNo) (q : ModuleRecord)
    (hq : q.isQuarantined = true) :
    PlacesAll (quarantinePlace i (Machine.setSlot i (some q) s)) := by
  have ni : ∀ m' g d, some q = some m' → m'.state ≠ .installed g d := by
    rintro m' g d ⟨⟩ he
    simp [ModuleRecord.isQuarantined, he] at hq
  have st : q.state.standsFixed := by
    unfold ModuleRecord.isQuarantined at hq
    split at hq <;> [skip; cases hq]
    rename_i he
    rw [he]; trivial
  have pl : ∀ p : PlaceNo, (Machine.setSlot i (some q) s).places[p] = s.places[p] := fun _ => rfl
  have hp0 : placeOf (Machine.setSlot i (some q) s) i = placeOf s i := rfl
  unfold quarantinePlace
  rw [hp0]
  split
  · rename_i hn
    exact h.setSlot (fun p hp => absurd hp (placeOf_none hn p)) (.inl fun p => placeOf_none hn p) ni
  · rename_i p hp
    have hp := placeOf_some hp
    split
    · rename_i hf
      rw [pl] at hf
      have up : ∀ x : PlaceNo, (updatePlace p (fun x => { x with alarm := true }) (Machine.setSlot i (some q) s)).places[x] =
          if p = x then { s.places[x] with alarm := true } else s.places[x] := fun x => updatePlace_place _ _ _ _
      have sl : ∀ j : SlotNo, (updatePlace p (fun x => { x with alarm := true }) (Machine.setSlot i (some q) s)).slots[j] =
          if i = j then some q else s.slots[j] := fun j => setSlot_slot i j (some q) s
      have ups : ∀ x : PlaceNo, (updatePlace p (fun x => { x with alarm := true }) (Machine.setSlot i (some q) s)).places[x].slot =
          s.places[x].slot := fun x => by rw [up]; split <;> rfl
      have upf : ∀ x : PlaceNo, (updatePlace p (fun x => { x with alarm := true }) (Machine.setSlot i (some q) s)).places[x].fixed =
          s.places[x].fixed := fun x => by rw [up]; split <;> rfl
      refine ⟨?_, ?_, ?_, ?_, ?_, ?_, ?_, ?_⟩
      · simp only [ups]; exact h.once
      · simp only [ups, upf]; exact h.owned
      · simp only [ups, upf]; exact h.together
      · simp only [ups, upf, sl]
        intro x hx
        obtain ⟨j, m', h1, h2, h3⟩ := h.fixed x hx
        by_cases hj : i = j
        · subst hj; exact ⟨i, q, h1, if_pos rfl, st⟩
        · exact ⟨j, m', h1, by rw [if_neg hj]; exact h2, h3⟩
      · simp only [ups, upf, sl]
        intro string pos x j ho h1 hfx hx
        have hj : i ≠ j := by
          rintro rfl
          rw [h.once x p i h1 hp, hf] at hfx
          cases hfx
        rw [if_neg hj]
        exact h.free string pos x j ho h1 hfx hx
      · simp only [ups, upf, sl]
        intro j m' g d h1 h2
        split at h1
        · exact absurd h2 (ni m' g d h1)
        · exact h.installed j m' g d h1 h2
      · intro x
        rw [ups, upf]
        by_cases hx : p = x
        · subst hx
          rw [up, if_pos rfl]
          simp only [true_iff]
          exact ⟨hf, i, q, hp, by rw [sl, if_pos rfl], hq⟩
        · rw [up, if_neg hx, h.alarm x]
          refine and_congr_right fun _ => exists_congr fun j => exists_congr fun m' => and_congr_right fun h1 => ?_
          rw [sl, if_neg]
          rintro rfl
          exact hx (h.once p x i hp h1)
      · simp only [ups]; exact h.planned
    · rename_i hf
      rw [pl] at hf
      have hx : PlacesBut (fun j => j = i) (Machine.setSlot i (some q) s) :=
        (h.mono fun _ hF => hF.elim).setSlot (fun x hx => by rw [h.once x p i hx hp]; simpa using hf) (.inr rfl) ni
      obtain ⟨k1, k2⟩ := hx.leavePlace hb i
      refine (k1.drop (i := i) fun x hx' => ?_).all fun j hj => hj.2 hj.1
      obtain ⟨a, b⟩ := k2 x hx'
      rw [(leavePlace_emptied i _ x).1]
      exact b

/-! ## Fixing -/

/-- The slots of a position by its places. -/
theorem mem_positionSlots (s : State) (i : StringNo) (pos : Nat) (k : SlotNo) :
    k ∈ positionSlots s i pos ↔ ∃ p ∈ s.bank[i].placesOf pos, s.places[p].slot = some k := by
  simp [positionSlots]

/-- Installing a record twice is installing it once. -/
theorem installRecord_idem (m : ModuleRecord) : installRecord (installRecord m) = installRecord m := by
  unfold installRecord
  split <;> simp_all

/-- Releasing a record twice is releasing it once. -/
theorem releaseRecord_idem (m : ModuleRecord) : releaseRecord (releaseRecord m) = releaseRecord m := by
  unfold releaseRecord
  cases h : m.state <;> simp [h]
  unfold stateOfGrade
  split <;> rename_i h2 <;> split at h2 <;> simp_all

/-- What fixing a position leaves. -/
theorem fixPosition_facts (i : StringNo) (pos : Nat) (s : State) :
    (fixPosition i pos s).bank = s.bank ∧ (fixPosition i pos s).run = s.run ∧ (fixPosition i pos s).store = s.store ∧
    (fixPosition i pos s).storeWork = s.storeWork ∧
    (∀ p : PlaceNo, (fixPosition i pos s).places[p] =
      if p ∈ s.bank[i].placesOf pos then { s.places[p] with fixed := true } else s.places[p]) ∧
    (∀ k : SlotNo, (fixPosition i pos s).slots[k] =
      if k ∈ positionSlots s i pos then s.slots[k].map installRecord else s.slots[k]) ∧
    (∀ j : StringNo, (fixPosition i pos s).records[j].state = s.records[j].state) := by
  have hw := (updatePlaces_work (s.bank[i].placesOf pos) (fun p => { p with fixed := true }) s).fields
  have us : ∀ (is : List SlotNo) (f : ModuleRecord → ModuleRecord) (u : State), (updateSlots is f u) = { u with slots := (updateSlots is f u).slots } := by
    intro is f u
    induction is generalizing u with
    | nil => rfl
    | cons a is ih =>
      rw [show updateSlots (a :: is) f u = updateSlots is f (updateSlot a f u) from rfl, ih]
      rfl
  unfold fixPosition
  refine ⟨?_, ?_, ?_, ?_, fun p => ?_, fun k => ?_, fun j => ?_⟩
  · simp only [updateRecord_fields]; rw [us]; simp only [hw]
  · simp only [updateRecord_fields]; rw [us]; simp only [hw]
  · simp only [updateRecord_fields]; rw [us]; simp only [hw]
  · simp only [updateRecord_fields]; rw [us]; simp only [hw]
  · have : (updateRecord i (clearReview pos) (updateSlots (positionSlots s i pos) installRecord
        (updatePlaces (s.bank[i].placesOf pos) (fun p => { p with fixed := true }) s))).places =
        (updatePlaces (s.bank[i].placesOf pos) (fun p => { p with fixed := true }) s).places := by
      simp only [updateRecord_fields]; rw [us]
    rw [this, updatePlaces_place _ (fun p => { p with fixed := true }) (fun _ => rfl)]
  · have : (updateRecord i (clearReview pos) (updateSlots (positionSlots s i pos) installRecord
        (updatePlaces (s.bank[i].placesOf pos) (fun p => { p with fixed := true }) s))).slots =
        (updateSlots (positionSlots s i pos) installRecord
        (updatePlaces (s.bank[i].placesOf pos) (fun p => { p with fixed := true }) s)).slots := by
      simp only [updateRecord_fields]
    rw [this, updateSlots_slot _ _ installRecord_idem]
    simp only [hw]
  · rw [updateRecord_record]
    rw [us]
    simp only [updatePlaces_records]
    split <;> rfl

/-- Fixing a filled, non-fixed position of an enabled string. -/
theorem PlacesBut.fixPosition {s : State} (h : PlacesAll s) {i : StringNo} {pos : Nat}
    (he : s.bank[i].enabled = true) (hc : pos < s.bank[i].count) (hb : BankSound s.bank)
    (hf : positionFixed s i pos = false) (hl : positionFilled s i pos = true) : PlacesAll (fixPosition i pos s) := by
  obtain ⟨bank, -, -, -, pl, sl, rc⟩ := fixPosition_facts i pos s
  have own : ∀ p ∈ s.bank[i].placesOf pos, ownsPlace s.bank i pos p := fun p hp => ⟨he, hc, hp⟩
  have nf : ∀ p ∈ s.bank[i].placesOf pos, s.places[p].fixed = false := by
    intro p hp
    by_contra hp'
    have : positionFixed s i pos = true := (positionFixed_iff s i pos).2 fun q hq => by
      rw [(h.together i pos q p (own q hq) (own p hp)).1]; simpa using hp'
    rw [this] at hf; cases hf
  have sp : ∀ p : PlaceNo, (Machine.fixPosition i pos s).places[p].slot = s.places[p].slot := fun p => by
    rw [pl]; split <;> rfl
  have ap : ∀ p : PlaceNo, (Machine.fixPosition i pos s).places[p].alarm = s.places[p].alarm := fun p => by
    rw [pl]; split <;> rfl
  have fp : ∀ p : PlaceNo, (Machine.fixPosition i pos s).places[p].fixed = true ↔ p ∈ s.bank[i].placesOf pos ∨ s.places[p].fixed = true :=
    fun p => by rw [pl]; split <;> simp_all
  have out : ∀ (p : PlaceNo) k, s.places[p].slot = some k → p ∉ s.bank[i].placesOf pos → k ∉ positionSlots s i pos := by
    intro p k h1 h2 h3
    obtain ⟨q, hq, h4⟩ := (mem_positionSlots s i pos k).1 h3
    exact h2 (h.once p q k h1 h4 ▸ hq)
  have inn : ∀ p ∈ s.bank[i].placesOf pos, ∃ k m, s.places[p].slot = some k ∧ k ∈ positionSlots s i pos ∧
      (Machine.fixPosition i pos s).slots[k] = some m ∧ ∃ g, m.state = .installed g false := by
    intro p hp
    obtain ⟨k, hk⟩ := Option.isSome_iff_exists.1 ((positionFilled_iff s i pos).1 hl p hp)
    obtain ⟨m, h1, h2, -⟩ := h.free i pos p k (own p hp) hk (nf p hp) id
    have hm : k ∈ positionSlots s i pos := (mem_positionSlots s i pos k).2 ⟨p, hp, hk⟩
    refine ⟨k, installRecord m, hk, hm, by rw [sl, if_pos hm, h1]; rfl, m.grade, ?_⟩
    simp [installRecord, h2]
  refine ⟨?_, ?_, ?_, ?_, ?_, ?_, ?_, ?_⟩
  · simp only [sp]; exact h.once
  · simp only [sp, fp, bank]
    rintro p (hn | hp | hp)
    · exact h.owned p (.inl hn)
    · exact ⟨i, pos, own p hp⟩
    · exact h.owned p (.inr hp)
  · rw [bank]
    intro string x p q hp hq
    refine ⟨?_, by rw [sp, sp]; exact (h.together _ _ _ _ hp hq).2⟩
    rw [Bool.eq_iff_iff, fp, fp, (h.together _ _ _ _ hp hq).1]
    refine or_congr_left ⟨fun hm => ?_, fun hm => ?_⟩
    · obtain ⟨rfl, rfl⟩ := hp.unique hb (own p hm); exact hq.2.2
    · obtain ⟨rfl, rfl⟩ := hq.unique hb (own q hm); exact hp.2.2
  · intro p hp
    rw [sp]
    by_cases hm : p ∈ s.bank[i].placesOf pos
    · obtain ⟨k, m, h1, -, h2, g, h3⟩ := inn p hm
      exact ⟨k, m, h1, h2, by rw [h3]; trivial⟩
    · obtain ⟨k, m, h1, h2, h3⟩ := h.fixed p (((fp p).1 hp).resolve_left hm)
      exact ⟨k, m, h1, by rw [sl, if_neg (out p k h1 hm)]; exact h2, h3⟩
  · rw [bank]
    intro string x p k ho h1 hfx hx
    rw [sp] at h1
    have hm : p ∉ s.bank[i].placesOf pos := fun hm => by rw [(fp p).2 (.inl hm)] at hfx; cases hfx
    have hfx' : s.places[p].fixed = false := by
      by_contra hc'
      rw [(fp p).2 (.inr (by simpa using hc'))] at hfx; cases hfx
    rw [sl, if_neg (out p k h1 hm)]
    exact h.free string x p k ho h1 hfx' hx
  · intro k m g d h1 h2
    by_cases hk : k ∈ positionSlots s i pos
    · obtain ⟨p, hp, h3⟩ := (mem_positionSlots s i pos k).1 hk
      exact ⟨p, by rw [sp]; exact h3, (fp p).2 (.inl hp)⟩
    · rw [sl, if_neg hk] at h1
      obtain ⟨p, h3, h4⟩ := h.installed k m g d h1 h2
      exact ⟨p, by rw [sp]; exact h3, (fp p).2 (.inr h4)⟩
  · intro p
    rw [ap, sp]
    by_cases hm : p ∈ s.bank[i].placesOf pos
    · obtain ⟨k, m, h1, -, h2, g, h3⟩ := inn p hm
      constructor
      · intro ha
        have := (h.alarm p).1 ha
        rw [nf p hm] at this
        cases this.1
      · rintro ⟨-, k', m', h4, h5, h6⟩
        rw [h1] at h4; cases h4
        rw [h2] at h5; cases h5
        simp [ModuleRecord.isQuarantined, h3] at h6
    · rw [h.alarm p]
      refine and_congr (by rw [fp, or_iff_right hm]) (exists_congr fun k => exists_congr fun m' => and_congr_right fun h1 => ?_)
      rw [sl, if_neg (out p k h1 hm)]
  · rw [bank]
    intro j hj
    rw [rc] at hj
    simp only [sp]
    exact h.planned j hj

/-- Changing slots reaches the slots alone. -/
theorem updateSlots_work (is : List SlotNo) (f : ModuleRecord → ModuleRecord) (u : State) :
    updateSlots is f u = { u with slots := (updateSlots is f u).slots } := by
  induction is generalizing u with
  | nil => rfl
  | cons a is ih =>
    rw [show updateSlots (a :: is) f u = updateSlots is f (updateSlot a f u) from rfl, ih]
    rfl

/-- A position with its marks cleared and its slots returned, before the eligibility rule. -/
def released (i : StringNo) (pos : Nat) (s : State) : State :=
  updateSlots (positionSlots s i pos) releaseRecord
    (updatePlaces (s.bank[i].placesOf pos) (fun p => { p with fixed := false, alarm := false }) s)

/-- What clearing the marks of a position and returning its slots leaves. -/
theorem released_facts (i : StringNo) (pos : Nat) (s : State) :
    released i pos s = { s with places := (released i pos s).places, slots := (released i pos s).slots } ∧
    (∀ p : PlaceNo, (released i pos s).places[p] =
      if p ∈ s.bank[i].placesOf pos then { s.places[p] with fixed := false, alarm := false } else s.places[p]) ∧
    (∀ k : SlotNo, (released i pos s).slots[k] =
      if k ∈ positionSlots s i pos then s.slots[k].map releaseRecord else s.slots[k]) := by
  have hw := updatePlaces_work (s.bank[i].placesOf pos) (fun p => { p with fixed := false, alarm := false }) s
  have hr := updatePlaces_records (s.bank[i].placesOf pos) (fun p => { p with fixed := false, alarm := false }) s
  unfold released
  refine ⟨?_, fun p => ?_, fun k => ?_⟩
  · rw [updateSlots_work, hw, hr]
  · rw [updateSlots_work]
    exact updatePlaces_place _ (fun p => { p with fixed := false, alarm := false }) (fun _ => rfl) _ _
  · rw [updateSlots_slot _ _ releaseRecord_idem]
    simp only [hw.fields]

/-- A released record is not INSTALLED (R6). -/
theorem releaseRecord_notInstalled (m : ModuleRecord) (g : Nat) (d : Bool) : (releaseRecord m).state ≠ .installed g d := by
  unfold releaseRecord
  cases h : m.state <;> simp [stateOfGrade, h]
  split <;> nofun

/-- Clearing the marks of a position and returning its slots, with those slots exempt from the rule of non-fixed
places. -/
theorem PlacesBut.released {s : State} (h : PlacesAll s) {i : StringNo} {pos : Nat}
    (he : s.bank[i].enabled = true) (hc : pos < s.bank[i].count) (hb : BankSound s.bank) :
    PlacesBut (· ∈ positionSlots s i pos) (released i pos s) := by
  obtain ⟨fr, pl, sl⟩ := released_facts i pos s
  have bank : (Machine.released i pos s).bank = s.bank := by rw [fr]
  have recs : (Machine.released i pos s).records = s.records := by rw [fr]
  have own : ∀ p ∈ s.bank[i].placesOf pos, ownsPlace s.bank i pos p := fun p hp => ⟨he, hc, hp⟩
  have sp : ∀ p : PlaceNo, (Machine.released i pos s).places[p].slot = s.places[p].slot := fun p => by
    rw [pl]; split <;> rfl
  have fp : ∀ p : PlaceNo, (Machine.released i pos s).places[p].fixed = true ↔ p ∉ s.bank[i].placesOf pos ∧ s.places[p].fixed = true :=
    fun p => by
      rw [pl]
      split
      · rename_i hm; exact ⟨nofun, fun h => absurd hm h.1⟩
      · rename_i hm; exact ⟨fun h => ⟨hm, h⟩, And.right⟩
  have keep : ∀ p : PlaceNo, p ∉ s.bank[i].placesOf pos → (Machine.released i pos s).places[p] = s.places[p] := fun p hp => by
    rw [pl, if_neg hp]
  have out : ∀ (p : PlaceNo) k, s.places[p].slot = some k → p ∉ s.bank[i].placesOf pos → k ∉ positionSlots s i pos := by
    intro p k h1 h2 h3
    obtain ⟨q, hq, h4⟩ := (mem_positionSlots s i pos k).1 h3
    exact h2 (h.once p q k h1 h4 ▸ hq)
  refine ⟨?_, ?_, ?_, ?_, ?_, ?_, ?_, ?_⟩
  · simp only [sp]; exact h.once
  · simp only [sp, fp, bank]
    exact fun p hp => h.owned p (hp.imp id And.right)
  · rw [bank]
    intro string x p q hp hq
    refine ⟨?_, by rw [sp, sp]; exact (h.together _ _ _ _ hp hq).2⟩
    rw [Bool.eq_iff_iff, fp, fp, (h.together _ _ _ _ hp hq).1]
    refine and_congr_left fun _ => not_congr ⟨fun hm => ?_, fun hm => ?_⟩
    · obtain ⟨rfl, rfl⟩ := hp.unique hb (own p hm); exact hq.2.2
    · obtain ⟨rfl, rfl⟩ := hq.unique hb (own q hm); exact hp.2.2
  · intro p hp
    obtain ⟨hm, hf⟩ := (fp p).1 hp
    obtain ⟨k, m, h1, h2, h3⟩ := h.fixed p hf
    exact ⟨k, m, by rw [sp]; exact h1, by rw [sl, if_neg (out p k h1 hm)]; exact h2, h3⟩
  · rw [bank]
    intro string x p k ho h1 hfx hx
    rw [sp] at h1
    have hm : p ∉ s.bank[i].placesOf pos := fun hm => hx ((mem_positionSlots _ _ _ _).2 ⟨p, hm, h1⟩)
    rw [keep p hm] at hfx
    rw [sl, if_neg hx]
    exact h.free string x p k ho h1 hfx id
  · intro k m g d h1 h2
    rw [sl] at h1
    split at h1
    · rw [Option.map_eq_some_iff] at h1
      obtain ⟨m', -, rfl⟩ := h1
      exact absurd h2 (releaseRecord_notInstalled m' g d)
    · rename_i hk
      obtain ⟨p, h3, h4⟩ := h.installed k m g d h1 h2
      have hm : p ∉ s.bank[i].placesOf pos := fun hm => hk ((mem_positionSlots _ _ _ _).2 ⟨p, hm, h3⟩)
      exact ⟨p, by rw [sp]; exact h3, (fp p).2 ⟨hm, h4⟩⟩
  · intro p
    by_cases hm : p ∈ s.bank[i].placesOf pos
    · rw [pl, if_pos hm]
      simp
    · rw [keep p hm, h.alarm p]
      refine and_congr_right fun hf => exists_congr fun k => exists_congr fun m' => and_congr_right fun h1 => ?_
      rw [sl, if_neg (out p k h1 hm)]
  · rw [bank, recs]
    simp only [sp]
    exact h.planned

/-- The eligibility rule for each of some slots brings them back under the rule of non-fixed places. -/
theorem PlacesBut.foldEligibility {X : SlotNo → Prop} (l : List SlotNo) {s : State} (h : PlacesBut X s) (hb : BankSound s.bank) :
    PlacesBut (fun j => X j ∧ j ∉ l) (l.foldl (fun s k => Machine.applyEligibility k s) s) := by
  induction l generalizing X s with
  | nil => exact h.mono fun i hi => ⟨hi, nofun⟩
  | cons a l ih =>
    have := ih (h.applyEligibility hb a) (by simp only [(applyEligibility_work a s).fields]; exact hb)
    exact this.mono fun i hi => ⟨hi.1.1, by simp [hi.1.2, hi.2]⟩

/-- Unfixing a position is releasing it, then the eligibility rule for its slots (R107). -/
theorem unfixPosition_eq (i : StringNo) (pos : Nat) (s : State) :
    unfixPosition i pos s = (positionSlots s i pos).foldl (fun s k => applyEligibility k s) (released i pos s) := rfl

/-- Unfixing a position of an enabled string. -/
theorem PlacesBut.unfixPosition {s : State} (h : PlacesAll s) {i : StringNo} {pos : Nat}
    (he : s.bank[i].enabled = true) (hc : pos < s.bank[i].count) (hb : BankSound s.bank) :
    PlacesAll (unfixPosition i pos s) := by
  rw [unfixPosition_eq]
  have bank : (Machine.released i pos s).bank = s.bank := by rw [(released_facts i pos s).1]
  exact ((h.released he hc hb).foldEligibility _ (by rw [bank]; exact hb)).all fun i hi => hi.2 hi.1

/-! ## Emptying the plan -/

/-- A new bank map with every place empty, when no place was fixed. -/
theorem PlacesBut.reset {s t : State} (h : PlacesAll s) (hn : ∀ p : PlaceNo, s.places[p].fixed = false)
    (hs : t.slots = s.slots) (hp : ∀ p : PlaceNo, t.places[p] = Place.empty)
    (hr : ∀ i : StringNo, t.records[i].state = .opened) : PlacesAll t := by
  refine ⟨?_, ?_, ?_, ?_, ?_, ?_, ?_, ?_⟩ <;> simp only [hp, Place.empty, hs]
  · nofun
  · intro p hp; simp at hp
  · simp
  · nofun
  · nofun
  · intro i m g d h1 h2
    obtain ⟨p, -, h4⟩ := h.installed i m g d h1 h2
    rw [hn] at h4; cases h4
  · intro p; simp
  · intro i hi
    rw [hr] at hi; cases hi

/-- A string is wholly fixed when it is enabled and every place it owns is fixed. -/
theorem whollyFixed_iff (s : State) (i : StringNo) :
    whollyFixed s i = true ↔ s.bank[i].enabled = true ∧ ∀ pos p, ownsPlace s.bank i pos p → s.places[p].fixed = true := by
  simp only [whollyFixed, Bool.and_eq_true, List.all_eq_true, List.mem_range, positionFixed_iff]
  exact and_congr_right fun he => ⟨fun h pos p ho => h pos ho.2.1 p ho.2.2, fun h pos hc p hp => h pos p ⟨he, hc, hp⟩⟩

/-- The records set from the fixed positions. -/
theorem recordsFromFixed_planned {s : State} (hf : ∀ p : PlaceNo, s.places[p].fixed = true → s.places[p].slot ≠ none)
    (i : StringNo) (hi : (recordsFromFixed s).records[i].state = .planned) :
    s.bank[i].enabled = true ∧ ∀ pos p, ownsPlace s.bank i pos p → s.places[p].slot ≠ none := by
  have : (recordsFromFixed s).records[i] = if whollyFixed s i then { state := .planned, reference := fixedReference s i, review := 0 }
      else StringRecord.initial := by simp [recordsFromFixed]
  rw [this] at hi
  split at hi
  · rename_i hw
    obtain ⟨h1, h2⟩ := (whollyFixed_iff s i).1 hw
    exact ⟨h1, fun pos p ho => hf p (h2 pos p ho)⟩
  · cases hi

/-- A slot stands in a fixed place when some fixed place holds it. -/
theorem inFixedPlace_iff {X : SlotNo → Prop} {s : State} (h : PlacesBut X s) (i : SlotNo) :
    inFixedPlace s i = true ↔ ∃ p : PlaceNo, s.places[p].slot = some i ∧ s.places[p].fixed = true := by
  unfold inFixedPlace
  split
  · rename_i p hp
    have hp := placeOf_some hp
    exact ⟨fun hf => ⟨p, hp, hf⟩, fun ⟨q, h1, h2⟩ => by rw [h.once p q i hp h1]; exact h2⟩
  · rename_i hn
    exact ⟨nofun, fun ⟨q, h1, h2⟩ => absurd h1 (placeOf_none hn q)⟩

/-- Removing the reports of slots reaches the report queue alone. -/
theorem removeReports_fold (l : List SlotNo) (u : State) :
    l.foldl (fun s i => removeReports i s) u = { u with reports := (l.foldl (fun s i => removeReports i s) u).reports } := by
  induction l generalizing u with
  | nil => rfl
  | cons a l ih => rw [List.foldl_cons, ih]; rfl

/-- PURGE. -/
theorem PlacesBut.purge {s : State} (h : PlacesAll s) : PlacesAll (purgeAll s) := by
  have facts : (purgeAll s).bank = s.bank ∧
      (∀ p : PlaceNo, (purgeAll s).places[p] = if s.places[p].fixed then s.places[p] else Place.empty) ∧
      (∀ i : SlotNo, (purgeAll s).slots[i] = if inFixedPlace s i then s.slots[i] else none) ∧
      (∀ i : StringNo, (purgeAll s).records[i].state = .planned → s.bank[i].enabled = true ∧
        ∀ pos p, ownsPlace s.bank i pos p → s.places[p].fixed = true) := by
    unfold purgeAll
    simp only
    rw [removeReports_fold]
    refine ⟨rfl, fun p => by simp [recordsFromFixed], fun i => by simp [recordsFromFixed], fun i hi => ?_⟩
    simp only [recordsFromFixed] at hi
    simp only [Fin.getElem_fin, Vector.getElem_ofFn] at hi
    split at hi
    · rename_i hw
      obtain ⟨h1, h2⟩ := (whollyFixed_iff _ _).1 hw
      refine ⟨h1, fun pos p ho => ?_⟩
      have := h2 pos p ho
      simp only [Fin.getElem_fin, Vector.getElem_ofFn] at this
      split at this
      · assumption
      · cases this
    · cases hi
  obtain ⟨bank, pl, sl, rc⟩ := facts
  have fp : ∀ p : PlaceNo, (purgeAll s).places[p].fixed = s.places[p].fixed := fun p => by
    rw [pl]; split
    · rfl
    · rename_i hf; simp [Place.empty]; simpa using hf
  have sp : ∀ (p : PlaceNo), (purgeAll s).places[p].slot = if s.places[p].fixed then s.places[p].slot else none := fun p => by
    rw [pl]; split <;> rfl
  have ss : ∀ (p : PlaceNo) k, (purgeAll s).places[p].slot = some k → s.places[p].slot = some k ∧ s.places[p].fixed = true := by
    intro p k hk
    rw [sp] at hk
    split at hk
    · exact ⟨hk, by assumption⟩
    · cases hk
  have sk : ∀ (p : PlaceNo) (k : SlotNo), s.places[p].slot = some k → s.places[p].fixed = true → (purgeAll s).slots[k] = s.slots[k] := by
    intro p k h1 h2
    rw [sl, if_pos ((inFixedPlace_iff h k).2 ⟨p, h1, h2⟩)]
  refine ⟨?_, ?_, ?_, ?_, ?_, ?_, ?_, ?_⟩
  · exact fun p q k h1 h2 => h.once p q k (ss p k h1).1 (ss q k h2).1
  · rw [bank]
    intro p hp
    rcases hp with hp | hp
    · obtain ⟨k, hk⟩ := Option.ne_none_iff_exists'.1 hp
      exact h.owned p (.inr (ss p k hk).2)
    · rw [fp] at hp; exact h.owned p (.inr hp)
  · rw [bank]
    intro string x p q hp hq
    obtain ⟨a, b⟩ := h.together _ _ _ _ hp hq
    rw [fp, fp, sp, sp, a]
    refine ⟨rfl, ?_⟩
    split
    · exact b
    · rfl
  · intro p hp
    rw [fp] at hp
    obtain ⟨k, m, h1, h2, h3⟩ := h.fixed p hp
    exact ⟨k, m, by rw [sp, if_pos hp]; exact h1, by rw [sk p k h1 hp]; exact h2, h3⟩
  · intro string x p k ho h1 hf
    rw [fp, (ss p k h1).2] at hf; cases hf
  · intro k m g d h1 h2
    rw [sl] at h1
    split at h1 <;> [skip; cases h1]
    obtain ⟨p, h3, h4⟩ := h.installed k m g d h1 h2
    exact ⟨p, by rw [sp, if_pos h4]; exact h3, by rw [fp]; exact h4⟩
  · intro p
    by_cases hp : s.places[p].fixed = true
    · rw [pl, if_pos hp, h.alarm p]
      refine and_congr_right fun _ => exists_congr fun k => exists_congr fun m => and_congr_right fun h1 => ?_
      rw [sk p k h1 hp]
    · rw [pl, if_neg hp]; simp [Place.empty]
  · rw [bank]
    intro i hi
    obtain ⟨h1, h2⟩ := rc i hi
    refine ⟨h1, fun pos p ho => ?_⟩
    obtain ⟨k, m, h3, -⟩ := h.fixed p (h2 pos p ho)
    rw [sp, if_pos (h2 pos p ho), h3]; nofun

/-! ## What the run relies on -/

/-- RunSound but for the grades of the slots of `X`. -/
structure RunBut (X : SlotNo → Prop) (s : State) (r : PlanningRun) : Prop where
  listed : (r.candidates.map (·.slot)).Nodup
  graded : ∀ c ∈ r.candidates, c.struck = false → ¬ X c.slot →
    ∃ m, s.slots[c.slot] = some m ∧ m.state = .graded ∧ m.grade = c.grade
  once : r.chosen.Nodup
  taken : ∀ i ∈ r.chosen, ∃ c ∈ r.candidates, c.slot = i ∧ c.taken = true ∧ c.struck = false
  strings : (r.tentative.map (·.string)).Nodup
  entries : ∀ e ∈ r.tentative, s.bank[e.string].enabled = true ∧
    (∃ l, r.lastProcessed = some l ∧ e.string ≤ l) ∧ choicesFit s.bank[e.string] r e.choices ∧
    (e.planned = true → e.choices.map (·.position) = openPositions s e.string) ∧
    (e.planned = false → e.choices = [])
  current : ∀ c, r.current = some c → s.bank[c.string].enabled = true ∧
    (∀ l, r.lastProcessed = some l → l < c.string) ∧ choicesFit s.bank[c.string] r c.choices ∧
    c.choices.map (·.position) ++ c.toFill = openPositions s c.string ∧
    ∀ j : StringNo, j < c.string → s.bank[j].enabled = true → ∃ e ∈ r.tentative, e.string = j
  covered : ∀ l, r.lastProcessed = some l → ∀ j : StringNo, j ≤ l → s.bank[j].enabled = true →
    ∃ e ∈ r.tentative, e.string = j

/-- RunBut with no slot exempt is RunSound. -/
theorem RunBut.sound {s : State} {r : PlanningRun} (h : RunBut (fun _ => False) s r) : RunSound s r :=
  ⟨h.listed, fun c hc hs => h.graded c hc hs id, h.once, h.taken, h.strings, h.entries, h.current, h.covered⟩

/-- RunSound is RunBut with any slots exempt. -/
theorem RunSound.but {s : State} {r : PlanningRun} (h : RunSound s r) (X : SlotNo → Prop) : RunBut X s r :=
  ⟨h.listed, fun c hc hs _ => h.graded c hc hs, h.once, h.taken, h.strings, h.entries, h.current, h.covered⟩

/-- What an undisturbed run of a state relies on. -/
def RunsBut (X : SlotNo → Prop) (s : State) : Prop := ∀ r, s.run = some r → r.disturbed = false → RunBut X s r

/-- The open positions of a string are read from the bank map and the fixed marks. -/
theorem openPositions_congr {s t : State} (hb : t.bank = s.bank)
    (hf : ∀ p : PlaceNo, t.places[p].fixed = s.places[p].fixed) (i : StringNo) : openPositions t i = openPositions s i := by
  have : ∀ pos, positionFixed t i pos = positionFixed s i pos := by
    intro pos
    unfold positionFixed
    rw [hb]
    exact congrArg (fun f => List.all _ f) (funext hf)
  unfold openPositions
  rw [hb]
  simp only [this]

/-- RunBut speaks of the bank map, the fixed marks, and the states and grades of slots alone. -/
theorem RunBut.congr {X Y : SlotNo → Prop} {s t : State} {r : PlanningRun} (h : RunBut X s r) (hb : t.bank = s.bank)
    (hf : ∀ p : PlaceNo, t.places[p].fixed = s.places[p].fixed)
    (hx : ∀ i, X i → Y i) (hs : ∀ i : SlotNo, ¬ Y i → standing t.slots[i] = standing s.slots[i]) : RunBut Y t r :=
  ⟨h.listed, (fun c hc hsr hy => by
      obtain ⟨m, h1, h2, h3⟩ := h.graded c hc hsr fun hX => hy (hx _ hX)
      obtain ⟨m', k1, k2, k3⟩ := standing_some (hs c.slot hy) h1
      exact ⟨m', k1, k2.trans h2, k3.trans h3⟩), h.once, h.taken, h.strings,
    (by simp only [openPositions_congr hb hf]; rw [hb]; exact h.entries),
    (by simp only [openPositions_congr hb hf]; rw [hb]; exact h.current), (by rw [hb]; exact h.covered)⟩

/-- RunsBut after work that keeps the run, the bank map, the fixed marks, and the states and grades of slots that are
not exempt. -/
theorem RunsBut.congr {X Y : SlotNo → Prop} {s t : State} (h : RunsBut X s) (hb : t.bank = s.bank)
    (hf : ∀ p : PlaceNo, t.places[p].fixed = s.places[p].fixed)
    (hx : ∀ i, X i → Y i) (hs : ∀ i : SlotNo, ¬ Y i → standing t.slots[i] = standing s.slots[i])
    (hr : t.run = s.run) : RunsBut Y t := fun r h1 h2 => (h r (hr ▸ h1) h2).congr hb hf hx hs

/-- A run whose disturbed mark may be set. -/
theorem RunsBut.disturbed {X : SlotNo → Prop} {s t : State} (h : RunsBut X s) (hb : t.bank = s.bank)
    (hf : ∀ p : PlaceNo, t.places[p].fixed = s.places[p].fixed)
    (hs : ∀ i : SlotNo, ¬ X i → standing t.slots[i] = standing s.slots[i]) (hd : Disturbed s t) : RunsBut X t := by
  obtain ⟨d, hd⟩ := hd
  intro r h1 h2
  rw [hd, Option.map_eq_some_iff] at h1
  obtain ⟨r', h3, rfl⟩ := h1
  simp only [Bool.or_eq_false_iff] at h2
  obtain ⟨h2, rfl⟩ := h2
  have := (h r' h3 h2).congr (Y := X) hb hf (fun _ => id) hs
  simpa using this

/-- A listed candidate is the entry of its slot. -/
theorem entryOf_unique {r : PlanningRun} (h : (r.candidates.map (·.slot)).Nodup) {c : Candidate} (hc : c ∈ r.candidates) :
    r.entryOf c.slot = some c := by
  unfold PlanningRun.entryOf
  revert h hc
  induction r.candidates with
  | nil => nofun
  | cons d l ih =>
    intro h hc
    rw [List.map_cons, List.nodup_cons] at h
    rw [List.find?_cons]
    by_cases hd : d.slot = c.slot
    · rcases List.mem_cons.1 hc with rfl | hc
      · simp
      · exact absurd (List.mem_map.2 ⟨c, hc, hd.symm⟩) h.1
    · rcases List.mem_cons.1 hc with rfl | hc
      · exact absurd rfl hd
      · have : (d.slot == c.slot) = false := by simpa using hd
        rw [this]
        exact ih h.2 hc

/-- Disturbing for a slot lets the run do without its grade. -/
theorem RunsBut.disturbFor {X : SlotNo → Prop} {s : State} (h : RunsBut X s) (i : SlotNo) :
    RunsBut (fun j => X j ∧ j ≠ i) (disturbFor i s) := by
  have hw := (disturbFor_work i s).fields
  intro r h1 h2
  rw [disturbFor_run, Option.map_eq_some_iff] at h1
  obtain ⟨r', h3, rfl⟩ := h1
  simp only [Bool.or_eq_false_iff] at h2
  obtain ⟨h2, h4⟩ := h2
  have k := h r' h3 h2
  have k2 : RunBut X (Machine.disturbFor i s) r' :=
    k.congr (by simp only [hw]) (fun p => by simp only [hw]) (fun _ => id) fun j _ => by simp only [hw]
  rw [h4, Bool.or_false]
  refine ⟨k2.listed, fun c hc hsr hx => ?_, k2.once, k2.taken, k2.strings, k2.entries, k2.current, k2.covered⟩
  refine k2.graded c hc hsr fun hX => ?_
  refine hx ⟨hX, ?_⟩
  rintro rfl
  have := entryOf_unique k.listed hc
  simp [hasUnstruckEntry, h3, this, hsr] at h4

/-- No run relies on nothing. -/
theorem RunsBut.none {X : SlotNo → Prop} {s : State} (h : s.run = none) : RunsBut X s := fun r hr => by rw [h] at hr; cases hr

/-! ## The whole -/

/-- Places, slots, records and the run, with no slot exempt. -/
def Consistent (s : State) : Prop := PlacesAll s ∧ RunsBut (fun _ => False) s

/-- PlacesSound is sound images with places, slots, records and the run consistent. -/
theorem placesSound_iff (s : State) : PlacesSound s ↔ ImagesSound s ∧ Consistent s :=
  ⟨fun h => ⟨h.images, ⟨h.once, h.owned, h.together, h.fixed, fun a b c d e f g _ => h.free a b c d e f g, h.installed,
      h.alarm, h.planned⟩, fun r h1 h2 => (h.run r h1 h2).but _⟩,
    fun h => ⟨h.1, h.2.1.once, h.2.1.owned, h.2.1.together, h.2.1.fixed, fun a b c d e f g => h.2.1.free a b c d e f g id,
      h.2.1.installed, h.2.1.alarm, h.2.1.planned, fun r h1 h2 => (h.2.2 r h1 h2).sound⟩⟩

/-- Consistent after work that keeps the bank map, the places, the states and grades of slots, and at most disturbs
the run. -/
theorem Consistent.congr {s t : State} (h : Consistent s) (hb : t.bank = s.bank)
    (hp : t.places = s.places) (hs : ∀ i : SlotNo, standing t.slots[i] = standing s.slots[i])
    (hr : ∀ i : StringNo, t.records[i].state = .planned → s.records[i].state = .planned) (hd : Disturbed s t) :
    Consistent t :=
  ⟨h.1.congr hb hp hs hr, h.2.disturbed hb (fun p => by rw [hp]) (fun i _ => hs i) hd⟩

/-- A state with the same bank, places, slots, records and run. -/
theorem Consistent.same {s t : State} (h : Consistent s) (hb : t.bank = s.bank) (hp : t.places = s.places)
    (hs : t.slots = s.slots) (hr : t.records = s.records) (hrun : t.run = s.run) : Consistent t :=
  h.congr hb hp (fun i => by rw [hs]) (fun i => by rw [hr]; exact id) (.same hrun)

/-- Without a run, places, slots and records are all that must agree. -/
theorem Consistent.noRun {s : State} (h : PlacesAll s) (hr : s.run = none) : Consistent s := ⟨h, .none hr⟩

/-- A report request keeps places and slots consistent. -/
theorem requestReport_consistent {s : State} (r : Report) (h : Consistent s) : Consistent (requestReport r s) :=
  h.same (by simp only [(requestReport_work r s).fields]) (requestReport_keeps r s).2.1 (requestReport_keeps r s).1
    (requestReport_keeps r s).2.2.1 (requestReport_keeps r s).2.2.2

/-- A slot changes but for its state and grade. -/
theorem setSlot_consistent {s : State} (h : Consistent s) {i : SlotNo} {v : Slot} (hv : standing v = standing s.slots[i]) :
    Consistent (setSlot i v s) :=
  h.congr rfl rfl (fun j => by rw [setSlot_slot]; split <;> [(rename_i e; subst e; exact hv); rfl]) (fun _ => id) (.same rfl)

/-- The review test keeps places and slots consistent (R111). -/
theorem reviewTest_consistent {s : State} (h : Consistent s) (i : SlotNo) : Consistent (reviewTest i s) := by
  have hw := (reviewTest_work i s).fields
  refine h.congr (by simp only [hw]) (reviewTest_places i s) (fun j => by simp only [hw]) (fun j => ?_) (.same (by simp only [hw]))
  unfold reviewTest
  split <;> [exact id; split] <;> [exact id; split] <;> [exact id; split] <;> [skip; exact id]
  rw [updateRecord_record]
  split
  · rename_i e; subst e; exact id
  · exact id

/-- Disturbing for figures keeps places and slots consistent (R129). -/
theorem disturbForFigures_consistent {s : State} (h : Consistent s) (i : SlotNo) : Consistent (disturbForFigures i s) := by
  have hw := (disturbForFigures_work i s).fields
  exact h.congr (by simp only [hw]) (by simp only [hw]) (fun j => by simp only [hw]) (fun j => by simp only [hw]; exact id)
    (disturbForFigures_disturbed i s)

/-! ## Evaluation -/

/-- Grading a TESTING or GRADED slot keeps places and slots consistent (R76, R80, R110, R129). -/
theorem gradeRackSlot_consistent {s : State} (h : Consistent s) (hb : BankSound s.bank) {i : SlotNo} {m : ModuleRecord}
    (hm : s.slots[i] = some m) (hst : m.state = .testing ∨ m.state = .graded) (g : Nat) (row : Option (Fin 16)) :
    Consistent (gradeRackSlot i m g row s) := by
  unfold gradeRackSlot
  split
  · exact setSlot_consistent h (by rw [hm]; rfl)
  · have nst : ¬ m.state.standsFixed := by rcases hst with e | e <;> rw [e] <;> exact id
    let s1 := setSlot i (some { m with grade := g, gradeRow := row, state := stateOfGrade g }) s
    let s2 := requestReport (.grade i m.grade g row) s1
    have hw1 := (requestReport_work (.grade i m.grade g row) s1).fields
    have hk := requestReport_keeps (.grade i m.grade g row) s1
    have p1 : PlacesBut (fun j => j = i) s1 := by
      refine PlacesBut.setSlot (h.1.mono fun _ hF => hF.elim) (fun p hp => h.1.notFixed hm nst hp) (.inr rfl) ?_
      rintro _ _ _ ⟨⟩
      simp only [stateOfGrade]
      split <;> nofun
    have r1 : RunsBut (fun j => j = i) s1 :=
      h.2.congr rfl (fun _ => rfl) (fun _ hF => hF.elim) (fun j hj => by rw [setSlot_slot, if_neg (Ne.symm hj)]) rfl
    have p2 : PlacesBut (fun j => j = i) s2 :=
      p1.congr (by simp only [s2, hw1]) hk.2.1 (fun j => by rw [hk.1]) fun j => by rw [hk.2.2.1]; exact id
    have r2 : RunsBut (fun j => j = i) s2 :=
      r1.congr (by simp only [s2, hw1]) (fun p => by rw [hk.2.1]) (fun _ => id) (fun j _ => by rw [hk.1]) hk.2.2.2
    have b2 : s2.bank = s.bank := by simp only [s2, hw1]; rfl
    have hw3 := (applyEligibility_work i s2).fields
    have p3 := (p2.applyEligibility (b2 ▸ hb) i).all fun j hj => hj.2 hj.1
    have r3 : RunsBut (fun j => j = i) (applyEligibility i s2) :=
      r2.congr (by simp only [hw3]) (fun p => (applyEligibility_emptied i s2 p).1) (fun _ => id)
        (fun j _ => by simp only [hw3]) (by simp only [hw3])
    have hw4 := (disturbFor_work i (applyEligibility i s2)).fields
    show Consistent (disturbFor i (applyEligibility i s2))
    refine ⟨p3.congr (by simp only [hw4]) (by simp only [hw4]) (fun j => by simp only [hw4]) fun j => by simp only [hw4]; exact id, ?_⟩
    intro r ha hb'
    have := (r3.disturbFor i) r ha hb'
    exact this.congr rfl (fun _ => rfl) (fun j hj => hj.2 hj.1) fun _ _ => rfl

/-- Grading an INSTALLED slot keeps places and slots consistent (R76, R81). -/
theorem gradeInstalledSlot_consistent {s : State} (h : Consistent s) {i : SlotNo} {m : ModuleRecord} {ig : Nat} {drift : Bool}
    (hm : s.slots[i] = some m) (hst : m.state = .installed ig drift) (g : Nat) (row : Option (Fin 16)) :
    Consistent (gradeInstalledSlot i m ig drift g row s) := by
  unfold gradeInstalledSlot
  split
  · exact setSlot_consistent h (by rw [hm]; rfl)
  · have key : Consistent (setSlot i (some { m with grade := g, gradeRow := row, state := .installed ig (g != ig) }) s) := by
      obtain ⟨p, hp, hf⟩ := h.1.installed i m ig drift hm hst
      have at_ : ∀ q : PlaceNo, s.places[q].slot = some i → s.places[q].fixed = true := fun q hq => by rw [h.1.once q p i hq hp]; exact hf
      refine ⟨⟨h.1.once, h.1.owned, h.1.together, ?_, ?_, ?_, ?_, h.1.planned⟩, ?_⟩
      · intro q hq
        obtain ⟨j, m', h1, h2, h3⟩ := h.1.fixed q hq
        by_cases hj : i = j
        · subst hj; exact ⟨i, { m with grade := g, gradeRow := row, state := .installed ig (g != ig) }, h1, by rw [setSlot_slot, if_pos rfl], trivial⟩
        · exact ⟨j, m', h1, by rw [setSlot_slot, if_neg hj]; exact h2, h3⟩
      · intro string pos q j ho h1 hfq hx
        rw [setSlot_slot, if_neg]
        · exact h.1.free string pos q j ho h1 hfq hx
        · rintro rfl
          have := at_ q h1
          rw [show (setSlot i (some { m with grade := g, gradeRow := row, state := .installed ig (g != ig) }) s).places = s.places from rfl, this] at hfq
          cases hfq
      · intro j m' g' d' h1 h2
        rw [setSlot_slot] at h1
        split at h1
        · rename_i e; subst e; exact ⟨p, hp, hf⟩
        · exact h.1.installed j m' g' d' h1 h2
      · intro q
        refine (h.1.alarm q).trans (and_congr_right fun _ => exists_congr fun j => ?_)
        by_cases hj : i = j
        · subst hj
          constructor
          · rintro ⟨m', h1, h2, h3⟩
            rw [hm] at h2; cases h2
            simp [ModuleRecord.isQuarantined, hst] at h3
          · rintro ⟨m', h1, h2, h3⟩
            rw [setSlot_slot, if_pos rfl] at h2; cases h2
            cases h3
        · simp only [setSlot_slot, if_neg hj]; rfl
      · intro r h1 h2
        have k := h.2 r h1 h2
        refine ⟨k.listed, fun c hc hsr hx => ?_, k.once, k.taken, k.strings, k.entries, k.current, k.covered⟩
        obtain ⟨m', h3, h4, h5⟩ := k.graded c hc hsr hx
        refine ⟨m', ?_, h4, h5⟩
        rw [setSlot_slot, if_neg, h3]
        rintro rfl
        rw [hm] at h3; cases h3
        rw [hst] at h4; cases h4
    simp only
    split
    · exact key
    · exact requestReport_consistent _ key

/-- An evaluation keeps places and slots consistent (R76, R77). -/
theorem evaluateSlot_consistent {s : State} (h : Consistent s) (hb : BankSound s.bank) (i : SlotNo) :
    Consistent (evaluateSlot i s) := by
  unfold evaluateSlot
  split
  · exact h
  · unfold evaluateSlotNow
    split
    · exact h
    · rename_i m hm
      split
      · rename_i hst _; exact gradeRackSlot_consistent h hb hm (.inl hst) _ _
      · rename_i hst _; exact gradeRackSlot_consistent h hb hm (.inr hst) _ _
      · rename_i hst _; exact gradeInstalledSlot_consistent h hm hst _ _
      · exact requestReport_consistent _ h
      · exact requestReport_consistent _ h
      · exact requestReport_consistent _ h
      · exact h
      · exact h

/-- The re-evaluation of all slots keeps places and slots consistent (R83). -/
theorem evaluateAll_consistent {s : State} (h : Consistent s) (hb : BankSound s.bank) : Consistent (evaluateAll s) := by
  have : ∀ (l : List SlotNo) (s : State), Consistent s → BankSound s.bank → Consistent (l.foldl (fun s i => evaluateSlot i s) s) := by
    intro l
    induction l with
    | nil => exact fun s h _ => h
    | cons a l ih =>
      intro s h hb
      refine ih _ (evaluateSlot_consistent h hb a) ?_
      have := (evaluateSlot_regraded a s).1.fields
      simp only [this]; exact hb
  exact this _ s h hb

/-! ## Work on one slot -/

/-- A disturbance for a slot ends what a run relied on for it. -/
theorem Consistent.disturbFor {t : State} {i : SlotNo} (h : PlacesAll t) (k : RunsBut (fun j => j = i) t) :
    Consistent (disturbFor i t) := by
  have hw := (disturbFor_work i t).fields
  refine ⟨h.congr (by simp only [hw]) (by simp only [hw]) (fun j => by simp only [hw]) fun j => by simp only [hw]; exact id, ?_⟩
  exact fun r ha hb => ((k.disturbFor i) r ha hb).congr rfl (fun _ => rfl) (fun j hj => hj.2 hj.1) fun _ _ => rfl

/-- A record put in a slot that is not GRADED leaves what a run relies on. -/
theorem RunsBut.setSlot {X : SlotNo → Prop} {s : State} (h : RunsBut X s) {i : SlotNo} {v : Slot}
    (hn : ∀ m, s.slots[i] = some m → m.state ≠ .graded) : RunsBut X (setSlot i v s) := by
  intro r h1 h2
  have k := h r h1 h2
  refine ⟨k.listed, fun c hc hsr hx => ?_, k.once, k.taken, k.strings, k.entries, k.current, k.covered⟩
  obtain ⟨m', h3, h4, h5⟩ := k.graded c hc hsr hx
  refine ⟨m', ?_, h4, h5⟩
  rw [setSlot_slot, if_neg, h3]
  rintro rfl
  exact hn m' h3 h4

/-- A slot that is not GRADED, INSTALLED or QUARANTINED stands in no place. -/
theorem PlacesBut.unplaced {s : State} (h : PlacesAll s) {i : SlotNo}
    (hn : ∀ m, s.slots[i] = some m → m.state ≠ .graded ∧ ¬ m.state.standsFixed) (p : PlaceNo) : s.places[p].slot ≠ some i := by
  intro hp
  by_cases hf : s.places[p].fixed = true
  · obtain ⟨j, m, h1, h2, h3⟩ := h.fixed p hf
    rw [hp] at h1; cases h1
    exact (hn m h2).2 h3
  · obtain ⟨string, pos, ho⟩ := h.owned p (.inl (by rw [hp]; nofun))
    obtain ⟨m, h1, h2, -⟩ := h.free string pos p i ho hp (by simpa using hf) id
    exact (hn m h1).1 h2

/-- A record that is not INSTALLED put in a slot that stands in no place and is not GRADED. -/
theorem Consistent.setSlot {s : State} (h : Consistent s) {i : SlotNo} {v : Slot}
    (hn : ∀ m, s.slots[i] = some m → m.state ≠ .graded ∧ ¬ m.state.standsFixed)
    (hv : ∀ m g d, v = some m → m.state ≠ .installed g d) : Consistent (setSlot i v s) :=
  ⟨h.1.setSlot (fun p hp => absurd hp (h.1.unplaced hn p)) (.inl fun p => h.1.unplaced hn p) hv,
    h.2.setSlot fun m hm => (hn m hm).1⟩

/-- The segment reset keeps the state and grade of a record (R11). -/
theorem resetTracker_standing (m : ModuleRecord) : (resetTracker m).state = m.state ∧ (resetTracker m).grade = m.grade := by
  unfold resetTracker
  split <;> exact ⟨rfl, rfl⟩

/-- Records change but for states and grades. -/
theorem mapSlots_consistent {s : State} (h : Consistent s) (f : SlotNo → ModuleRecord → ModuleRecord)
    (hf : ∀ i m, (f i m).state = m.state ∧ (f i m).grade = m.grade) : Consistent (mapSlots f s) :=
  by
  refine h.congr (by simp) (by simp) (fun i => ?_) (fun i => by simp) (.same (by simp))
  rw [mapSlots_slot]
  cases s.slots[i] with
  | none => rfl
  | some m => simp [standing, hf i m]

/-- Changing one record but for its state and grade keeps places and slots consistent. -/
theorem updateSlot_consistent {s : State} (h : Consistent s) (i : SlotNo) (f : ModuleRecord → ModuleRecord)
    (hf : ∀ m, (f m).state = m.state ∧ (f m).grade = m.grade) : Consistent (updateSlot i f s) :=
  setSlot_consistent h (by
    cases s.slots[i] with
    | none => rfl
    | some m => simp [standing, hf m])

/-- The segment reset of every slot keeps places and slots consistent (R11). -/
theorem resetAllSegments_consistent {s : State} (h : Consistent s) : Consistent (resetAllSegments s) :=
  mapSlots_consistent h _ fun _ m => resetTracker_standing m

/-- The segment reset of some slots keeps places and slots consistent (R11). -/
theorem resetSegmentsWhere_consistent {s : State} (h : Consistent s) (w : SlotNo → ModuleRecord → Bool) :
    Consistent (resetSegmentsWhere w s) :=
  mapSlots_consistent h _ fun _ m => by split <;> [exact resetTracker_standing m; exact ⟨rfl, rfl⟩]

/-- The segment reset of a slot keeps places and slots consistent (R11). -/
theorem resetSegments_consistent {s : State} (h : Consistent s) (i : SlotNo) : Consistent (resetSegments i s) :=
  updateSlot_consistent h i _ resetTracker_standing

/-- The segment reset of a slot that may be none keeps places and slots consistent (R17). -/
theorem resetNamed_consistent {s : State} (h : Consistent s) (v : Option SlotNo) : Consistent (resetNamed v s) := by
  unfold resetNamed
  split
  · exact h
  · exact resetSegments_consistent h _

/-- A fold of operations that keep places and slots consistent is one. -/
theorem foldl_consistent {α : Type} (f : State → α → State) (hf : ∀ s a, Consistent s → Consistent (f s a)) (l : List α)
    {s : State} (h : Consistent s) : Consistent (l.foldl f s) := by
  induction l generalizing s with
  | nil => exact h
  | cons a l ih => exact ih (hf s a h)

/-! ## Quarantine -/

/-- Quarantine of a slot keeps places and slots consistent (R8, R9, R100, R129). -/
theorem quarantineSlot_consistent {s : State} (h : Consistent s) (hb : BankSound s.bank) (i : SlotNo) (reason : QuarantineReason)
    (m : ModuleRecord) : Consistent (quarantineSlot i reason m s) := by
  unfold quarantineSlot
  let s1 := setSlot i (some (quarantinedRecord reason (inFixedPlace s i) m)) s
  have p1 := h.1.quarantine hb i (quarantinedRecord reason (inFixedPlace s i) m) rfl
  have r1 : RunsBut (fun j => j = i) s1 :=
    h.2.congr rfl (fun _ => rfl) (fun _ hF => hF.elim) (fun j hj => by rw [setSlot_slot, if_neg (Ne.symm hj)]) rfl
  have w := (quarantinePlace_worked i s1)
  have hq : (quarantinePlace i s1).bank = s1.bank ∧ (quarantinePlace i s1).slots = s1.slots ∧ (quarantinePlace i s1).run = s1.run := by
    unfold quarantinePlace
    split <;> [skip; split]
    · exact ⟨rfl, rfl, rfl⟩
    · exact ⟨rfl, rfl, rfl⟩
    · have := (leavePlace_work i s1).fields
      simp only [this, and_self]
  have r2 : RunsBut (fun j => j = i) (quarantinePlace i s1) :=
    r1.congr hq.1 (fun p => (w.places p).1) (fun _ => id) (fun j _ => by rw [hq.2.1]) hq.2.2
  let rp := Report.quarantine i reason m.grade
  have hk := requestReport_keeps rp (quarantinePlace i s1)
  have hw := (requestReport_work rp (quarantinePlace i s1)).fields
  show Consistent (disturbFor i (requestReport rp (quarantinePlace i s1)))
  have p1 : PlacesAll (quarantinePlace i s1) := p1
  exact .disturbFor (p1.congr (by simp only [hw]) hk.2.1 (fun j => by rw [hk.1]) fun j => by rw [hk.2.2.1]; exact id)
    (r2.congr (by simp only [hw]) (fun p => by rw [hk.2.1]) (fun _ => id) (fun j _ => by rw [hk.1]) hk.2.2.2)

/-! ## Samples -/

/-- Work on a slot keeps the bank map sound. -/
theorem Worked.bankSound {i : SlotNo} {s t : State} (h : Worked i s t) (hb : BankSound s.bank) : BankSound t.bank := by
  simp only [h.work.fields]; exact hb

/-- Handing figures on keeps places and slots consistent (R66). -/
theorem handOn_consistent {s : State} (h : Consistent s) (hb : BankSound s.bank) (i : SlotNo) (kinds : List FigureKind)
    (first : Bool) : Consistent (handOn i kinds first s) := by
  unfold handOn
  have h1 : Consistent (requestReport (.figure i (figureSet kinds)) (updateSlot i (fun m => { m with restored := false }) s)) :=
    requestReport_consistent _ (updateSlot_consistent h i _ fun _ => ⟨rfl, rfl⟩)
  have b1 : BankSound (requestReport (.figure i (figureSet kinds)) (updateSlot i (fun m => { m with restored := false }) s)).bank := by
    simp only [(requestReport_work _ _).fields]; exact hb
  generalize requestReport (.figure i (figureSet kinds)) (updateSlot i (fun m => { m with restored := false }) s) = s1 at h1 b1
  have h2 : Consistent (if first then s1 else evaluateSlot i s1) := by
    split
    · exact h1
    · exact evaluateSlot_consistent h1 b1 i
  have h3 : Consistent (if kinds.contains .cap then reviewTest i (if first then s1 else evaluateSlot i s1)
      else (if first then s1 else evaluateSlot i s1)) := by
    split
    · exact reviewTest_consistent h2 i
    · exact h2
  dsimp only
  split
  · exact disturbForFigures_consistent h3 i
  · exact h3

/-- Work on a delivery keeps places and slots consistent (R49). -/
theorem deliver_consistent {s : State} (h : Consistent s) (hb : BankSound s.bank) (i : SlotNo) (d : Delivery) (first : Bool) :
    Consistent (deliver i d first s) := by
  unfold deliver
  split
  · exact h
  · exact h
  · rename_i m _ _ hm _
    exact handOn_consistent (setSlot_consistent h (by rw [hm]; rfl)) hb i _ first

/-- The work on one sample keeps places and slots consistent (R30). -/
theorem workSample_consistent {s : State} (h : Consistent s) (hb : BankSound s.bank) (i : SlotNo) (x : ClampedSample) :
    Consistent (workSample i x s) := by
  unfold workSample
  split
  · exact h
  · rename_i m hm
    split <;> [skip; exact h]
    dsimp only
    split
    · exact quarantineSlot_consistent h hb i _ m
    · refine deliver_consistent (s := Machine.setSlot i _ s) ?_ hb i _ _
      by_cases ha : m.state = .admitted
      · refine h.setSlot (fun m' hm' => ?_) ?_
        · rw [hm] at hm'; cases hm'
          rw [ha]; exact ⟨nofun, id⟩
        · rintro _ g d ⟨⟩
          simp [trackedRecord, ha]
      · refine setSlot_consistent h ?_
        rw [hm]
        simp [standing, trackedRecord, ha]

/-- The work on one channel entry keeps places and slots consistent (R26). -/
theorem workEntry_consistent {s : State} (h : Consistent s) (hb : BankSound s.bank) (node : Nat) (payload : List Byte) (k : Nat) :
    Consistent (workEntry node payload k s) ∧ BankSound (workEntry node payload k s).bank := by
  constructor
  · unfold workEntry
    split <;> [split; exact h]
    · exact h
    · exact workSample_consistent h hb _ _
  · rcases workEntry_worked node payload k s with e | ⟨i, w⟩
    · rw [e]; exact hb
    · exact w.bankSound hb

/-- Changing a node reaches the node register alone. -/
theorem updateNode_eq (node : Nat) (f : NodeEntry → NodeEntry) (s : State) :
    updateNode node f s = { s with nodes := (updateNode node f s).nodes } := by
  unfold updateNode
  split <;> rfl

/-- Changing a node keeps places and slots consistent. -/
theorem updateNode_consistent {s : State} (h : Consistent s) (node : Nat) (f : NodeEntry → NodeEntry) :
    Consistent (updateNode node f s) := by
  rw [updateNode_eq]
  exact h.same rfl rfl rfl rfl rfl

/-- The observation of a frame keeps places and slots consistent (R25). -/
theorem observe_consistent {s : State} (h : Consistent s) (hb : BankSound s.bank) (node : Nat) (payload : List Byte) :
    Consistent (observe node payload s) := by
  unfold observe
  split
  · exact (updateNode_consistent h node _).same rfl rfl rfl rfl rfl
  · have : ∀ (l : List Nat) (s : State), Consistent s → BankSound s.bank →
        Consistent (l.foldl (fun s k => workEntry node payload k s) s) := by
      intro l
      induction l with
      | nil => exact fun s h _ => h
      | cons a l ih =>
        intro s h hb
        have := workEntry_consistent h hb node payload a
        exact ih _ this.1 this.2
    refine this _ _ (updateNode_consistent h node _) ?_
    rw [updateNode_eq]; exact hb

/-- A node that falls silent keeps places and slots consistent (R20). -/
theorem fallSilent_consistent {s : State} (h : Consistent s) (node : Nat) : Consistent (fallSilent node s) := by
  unfold fallSilent
  exact requestReport_consistent _ (foldl_consistent _ (fun s a h => resetSegments_consistent h a) _ (updateNode_consistent h node _))

/-! ## Slot directives -/

/-- The disturbance of WITHDRAW may be told last: it does not look at slots or reports. -/
theorem withdrawSlot_eq (i : SlotNo) (s : State) :
    withdrawSlot i s = disturbFor i (setSlot i none (removeReports i (leavePlace i s))) := by
  unfold withdrawSlot
  generalize leavePlace i s = t
  have : hasUnstruckEntry (setSlot i none (removeReports i t)) i = hasUnstruckEntry t i := by
    simp only [hasUnstruckEntry, setSlot, removeReports]
  unfold disturbFor
  rw [this]
  split <;> simp only [setSlot, removeReports, disturb]

/-- A slot that is exempt may become VACANT. -/
theorem runsBut_vacate {u : State} {i : SlotNo} (r2 : RunsBut (fun j => j = i) u) : RunsBut (fun j => j = i) (setSlot i none u) := by
  refine r2.congr (by simp) (fun p => by simp) (fun _ => id) (fun j hj => ?_) (by simp)
  rw [setSlot_slot, if_neg (Ne.symm hj)]

/-- A slot that stands in no place becomes VACANT and disturbs the run. -/
theorem vacate_consistent {u : State} (i : SlotNo) (h : PlacesAll u) (r : RunsBut (fun j => j = i) u)
    (np : ∀ p : PlaceNo, u.places[p].slot ≠ some i) : Consistent (disturbFor i (setSlot i none u)) :=
  have e : ∀ (m : ModuleRecord) (g : Nat) (d : Bool), (none : Slot) = some m → m.state ≠ .installed g d := fun _ _ _ h => by cases h
  have := PlacesBut.setSlot (v := none) h (fun p hp => absurd hp (np p)) (.inl np) e
  .disturbFor this (runsBut_vacate r)

/-- Removing reports keeps places and slots consistent. -/
theorem removeReports_all {t : State} (i : SlotNo) (h : PlacesAll t) : PlacesAll (removeReports i t) :=
  h.congr (by simp only [removeReports]) (by simp only [removeReports]) (fun _ => by simp only [removeReports]) fun j hj => hj

/-- Removing reports keeps what a run relies on. -/
theorem removeReports_runs {X : SlotNo → Prop} {t : State} (i : SlotNo) (h : RunsBut X t) : RunsBut X (removeReports i t) :=
  h.congr (by simp only [removeReports]) (fun p => by simp only [removeReports]) (fun _ => id) (fun _ _ => by simp only [removeReports]) (by simp only [removeReports])

/-- Removing reports keeps the places. -/
theorem removeReports_places (i : SlotNo) (t : State) : (removeReports i t).places = t.places := by simp only [removeReports]

/-- WITHDRAW of a slot that stands in no fixed place keeps places and slots consistent (R13). -/
theorem withdrawSlot_consistent {s : State} (h : Consistent s) (hb : BankSound s.bank) (i : SlotNo)
    (hn : inFixedPlace s i = false) : Consistent (withdrawSlot i s) := by
  rw [withdrawSlot_eq]
  obtain ⟨k1, k2⟩ := h.1.leavePlace hb i
  have np : ∀ p : PlaceNo, (leavePlace i s).places[p].slot ≠ some i := fun p hp => by
    rw [(inFixedPlace_iff h.1 i).2 ⟨p, k2 p hp⟩] at hn; cases hn
  have hw := (leavePlace_work i s).fields
  have r1 : RunsBut (fun j => j = i) (leavePlace i s) :=
    h.2.congr (by simp only [hw]) (fun p => (leavePlace_emptied i s p).1) (fun _ hF => hF.elim) (fun j _ => by simp only [hw]) (by simp only [hw])
  exact vacate_consistent i (removeReports_all i k1) (removeReports_runs i r1) (by rw [removeReports_places]; exact np)

/-- CLEAR FIGURES keeps places and slots consistent (R14). -/
theorem clearSlotFigures_consistent {s : State} (h : Consistent s) (hb : BankSound s.bank) (i : SlotNo) (named : List FigureKind) :
    Consistent (clearSlotFigures i named s) := by
  unfold clearSlotFigures
  dsimp only
  have h1 : Consistent (resetSegments i (updateSlot i (fun m => { m with figures := clearFigures (clearedFigures named) m.figures }) s)) :=
    resetSegments_consistent (updateSlot_consistent h i (fun m => { m with figures := clearFigures (clearedFigures named) m.figures }) fun _ => ⟨rfl, rfl⟩) i
  have b1 : BankSound (resetSegments i (updateSlot i (fun m => { m with figures := clearFigures (clearedFigures named) m.figures }) s)).bank := hb
  generalize resetSegments i (updateSlot i (fun m => { m with figures := clearFigures (clearedFigures named) m.figures }) s) = s1 at h1 b1
  have h2 := requestReport_consistent (.figure i (figureSet (clearedFigures named))) h1
  have b2 : BankSound (requestReport (.figure i (figureSet (clearedFigures named))) s1).bank := by
    simp only [(requestReport_work _ _).fields]; exact b1
  generalize requestReport (.figure i (figureSet (clearedFigures named))) s1 = s2 at h2 b2
  have h3 : Consistent (disturbFor i s2) := .disturbFor h2.1 (h2.2.congr rfl (fun _ => rfl) (fun _ hF => hF.elim) (fun _ _ => rfl) rfl)
  have b3 : BankSound (disturbFor i s2).bank := by simp only [(disturbFor_work i s2).fields]; exact b2
  have h4 := evaluateSlot_consistent h3 b3 i
  split
  · exact reviewTest_consistent h4 i
  · exact h4

end Sys2Proof.Machine
end

