-- ==== Sys2Proof/Laws/Plan.lean ====
section
/-! SUPPORT. What keeps a planning run sound and its adoption consistent: fixing with a held run, the candidate list, opening,
filling and adoption, and the restoring of the install image. -/

namespace Sys2Proof.Machine

/-! ## Fixing with a run -/

/-- A position of another enabled string keeps whether it is fixed. -/
theorem positionFixed_other {s t : State} {i j : StringNo} (hb : t.bank = s.bank) (hs : BankSound s.bank)
    (hf : ∀ p : PlaceNo, (∀ pos, ¬ ownsPlace s.bank i pos p) → t.places[p].fixed = s.places[p].fixed)
    (hj : j ≠ i) (he : s.bank[j].enabled = true) {pos : Nat} (hc : pos < s.bank[j].count) :
    positionFixed t j pos = positionFixed s j pos := by
  rw [Bool.eq_iff_iff, positionFixed_iff, positionFixed_iff, hb]
  refine forall₂_congr fun p hp => ?_
  rw [hf p fun x hx => hj (ownsPlace.unique hs (⟨he, hc, hp⟩ : ownsPlace s.bank j pos p) hx).1]

/-- The open positions of another enabled string stay when one string's places are fixed or unfixed. -/
theorem openPositions_other {s t : State} {i j : StringNo} (hb : t.bank = s.bank) (hs : BankSound s.bank)
    (hf : ∀ p : PlaceNo, (∀ pos, ¬ ownsPlace s.bank i pos p) → t.places[p].fixed = s.places[p].fixed)
    (hj : j ≠ i) (he : s.bank[j].enabled = true) : openPositions t j = openPositions s j := by
  unfold openPositions
  rw [hb]
  refine List.filter_congr fun pos hpos => ?_
  rw [positionFixed_other hb hs hf hj he (List.mem_range.1 hpos)]

/-- Each candidate after some are struck. -/
theorem strikeIn_mem {slots : List SlotNo} {r : PlanningRun} {c : Candidate} (hc : c ∈ r.candidates) :
    ∃ d ∈ (strikeIn slots r).candidates, d.slot = c.slot ∧ d.grade = c.grade ∧ d.taken = c.taken ∧
      (c.slot ∉ slots → d.struck = c.struck) := by
  refine ⟨_, List.mem_map.2 ⟨c, hc, rfl⟩, ?_⟩
  by_cases h : c.slot ∈ slots <;> simp [h]

/-- Striking keeps the slots of the candidates. -/
theorem strikeIn_slots (slots : List SlotNo) (r : PlanningRun) :
    (strikeIn slots r).candidates.map (·.slot) = r.candidates.map (·.slot) := by
  simp only [strikeIn, List.map_map]
  refine List.map_congr_left fun c _ => ?_
  simp only [Function.comp]
  split <;> rfl

/-- Fixing or unfixing a position of a string that the run has not come to. -/
theorem RunBut.other {s t : State} {r : PlanningRun} {i : StringNo} {slots : List SlotNo} (h : RunBut (fun _ => False) s r)
    (hb : t.bank = s.bank) (hs : BankSound s.bank)
    (hf : ∀ p : PlaceNo, (∀ pos, ¬ ownsPlace s.bank i pos p) → t.places[p].fixed = s.places[p].fixed)
    (nc : isCurrent r i = false) (np : isProcessed r i = false)
    (hk : ∀ (k : SlotNo) m, s.slots[k] = some m → m.state = .graded → k ∉ slots → standing t.slots[k] = standing s.slots[k])
    (nt : ∀ c ∈ r.candidates, c.slot ∈ slots → c.taken = false) : RunBut (fun _ => False) t (strikeIn slots r) := by
  have ne : ∀ e ∈ r.tentative, e.string ≠ i := fun e he => by
    have := List.any_eq_false.1 np e he
    simpa using this
  have nc' : ∀ c, r.current = some c → c.string ≠ i := fun c hc => by
    simpa [isCurrent, hc] using nc
  have fit : ∀ (b : BankString) cs, choicesFit b r cs → choicesFit b (strikeIn slots r) cs := by
    intro b cs hcs ch hch
    obtain ⟨h1, h2⟩ := hcs ch hch
    refine ⟨h1, fun k hk => ?_⟩
    obtain ⟨c, hc, h3, h4⟩ := h2 k hk
    obtain ⟨d, hd, h5, h6, -⟩ := strikeIn_mem (slots := slots) hc
    exact ⟨d, hd, h5.trans h3, by rw [h6]; exact h4⟩
  refine ⟨by rw [strikeIn_slots]; exact h.listed, ?_, h.once, ?_, h.strings, ?_, ?_, by rw [hb]; exact h.covered⟩
  · intro d hd hsr _
    obtain ⟨c, hc, rfl⟩ := List.mem_map.1 hd
    by_cases hm : c.slot ∈ slots
    · simp [hm] at hsr
    · have : slots.contains c.slot = false := by simpa using hm
      simp only [this] at hsr ⊢
      obtain ⟨m, h1, h2, h3⟩ := h.graded c hc hsr id
      obtain ⟨m', k1, k2, k3⟩ := standing_some (hk _ m h1 h2 hm) h1
      exact ⟨m', k1, k2.trans h2, k3.trans h3⟩
  · intro k hk
    obtain ⟨c, hc, h1, h2, h3⟩ := h.taken k hk
    obtain ⟨d, hd, h4, -, h5, h6⟩ := strikeIn_mem (slots := slots) hc
    have hm : c.slot ∉ slots := fun hm => by rw [nt c hc hm] at h2; cases h2
    exact ⟨d, hd, h4.trans h1, h5.trans h2, (h6 hm).trans h3⟩
  · intro e he
    obtain ⟨h1, h2, h3, h4, h5⟩ := h.entries e he
    rw [hb, openPositions_other hb hs hf (ne e he) h1]
    exact ⟨h1, h2, fit _ _ h3, h4, h5⟩
  · intro c hc
    obtain ⟨h1, h2, h3, h4, h5⟩ := h.current c hc
    rw [hb, openPositions_other hb hs hf (nc' c hc) h1]
    exact ⟨h1, h2, fit _ _ h3, h4, h5⟩

/-- RunBut says nothing of the mode and the disturbed mark. -/
theorem RunBut.marks {X : SlotNo → Prop} {s : State} {r : PlanningRun} (h : RunBut X s r) (m : RunMode) (d : Bool) :
    RunBut X s { r with mode := m, disturbed := d } :=
  ⟨h.listed, h.graded, h.once, h.taken, h.strings, h.entries, h.current, h.covered⟩

/-- Striking no slots changes no run. -/
theorem strikeIn_nil (r : PlanningRun) : strikeIn [] r = r := by
  have : (r.candidates.any fun c => ([] : List SlotNo).contains c.slot && c.taken) = false := by simp
  unfold strikeIn
  rw [this, Bool.or_false]
  have : (r.candidates.map fun c => if ([] : List SlotNo).contains c.slot then { c with struck := true } else c) = r.candidates := by simp
  rw [this]

/-- Disturbing for a processed string is work on the run. -/
theorem disturbIfProcessed_work (i : StringNo) (s : State) : RunWork s (disturbIfProcessed i s) := by
  unfold disturbIfProcessed
  split <;> rfl

/-- The run after disturbing it for a processed string (R133). -/
theorem disturbIfProcessed_run (i : StringNo) (s : State) :
    (disturbIfProcessed i s).run = s.run.map fun r => { r with disturbed := r.disturbed || isProcessed r i } := by
  unfold disturbIfProcessed
  cases hr : s.run with
  | none => simp [hr]
  | some r => cases hp : isProcessed r i <;> simp [hp, disturb, hr]

/-- A string that FIX and UNFIX may reach is not the current one (R133). -/
theorem runRefusal_none {s : State} {i : StringNo} (h : runRefusal s i = none) {r : PlanningRun} (hr : s.run = some r) :
    isCurrent r i = false := by
  unfold runRefusal at h
  rw [hr] at h
  simp only at h
  split at h
  · cases h
  · split at h
    · cases h
    · exact Bool.eq_false_iff.2 (by assumption)

/-- FIX. -/
theorem fixWithRun_consistent {s : State} (h : Consistent s) (hb : BankSound s.bank) {i : StringNo} {pos : Nat}
    (hc : pos < s.bank[i].count) (he : s.bank[i].enabled = true) (hr : runRefusal s i = none)
    (hf : positionFixed s i pos = false) (hl : positionFilled s i pos = true) : Consistent (fixWithRun i pos s) := by
  obtain ⟨f1, f2, -, -, f3, f4, f5⟩ := fixPosition_facts i pos s
  have p1 := h.1.fixPosition he hc hb hf hl
  unfold fixWithRun
  have hw := (disturbIfProcessed_work i (strikeSlots (positionSlots s i pos) (fixPosition i pos s))).fields
  have hrun := disturbIfProcessed_run i (strikeSlots (positionSlots s i pos) (fixPosition i pos s))
  generalize disturbIfProcessed i (strikeSlots (positionSlots s i pos) (fixPosition i pos s)) = u at *
  have sb : (strikeSlots (positionSlots s i pos) (fixPosition i pos s)).bank = (fixPosition i pos s).bank := rfl
  have sp : (strikeSlots (positionSlots s i pos) (fixPosition i pos s)).places = (fixPosition i pos s).places := rfl
  have ss : (strikeSlots (positionSlots s i pos) (fixPosition i pos s)).slots = (fixPosition i pos s).slots := rfl
  have sr : (strikeSlots (positionSlots s i pos) (fixPosition i pos s)).records = (fixPosition i pos s).records := rfl
  refine ⟨p1.congr (by simp only [hw, sb]) (by simp only [hw, sp]) (fun _ => by simp only [hw, ss]) (fun _ => by simp only [hw, sr]; exact id), ?_⟩
  intro r' h1 h2
  rw [hrun] at h1
  simp only [strikeSlots, f2, Option.map_map, Option.map_eq_some_iff] at h1
  obtain ⟨r, hr', rfl⟩ := h1
  simp only [Function.comp, Bool.or_eq_false_iff] at h2
  obtain ⟨h2, h3⟩ := h2
  simp only [strikeIn, Bool.or_eq_false_iff] at h2
  obtain ⟨h2, h4⟩ := h2
  refine RunBut.marks ((h.2 r hr' h2).other (slots := positionSlots s i pos) (i := i) (by simp only [hw, sb, f1]) hb
    (fun p hp => by simp only [hw, sp]; rw [f3, if_neg fun hm => hp pos ⟨he, hc, hm⟩]) (runRefusal_none hr hr') h3
    (fun k m _ _ hk => by simp only [hw, ss]; rw [f4, if_neg hk])
    (fun c hc hm => by
      have := List.any_eq_false.1 h4 c hc
      simp only [Bool.and_eq_true, List.contains_iff_mem] at this
      simpa using fun ht => this ⟨hm, ht⟩)) _ _

/-- What unfixing a position leaves. -/
theorem unfixPosition_facts (i : StringNo) (pos : Nat) (s : State) :
    (unfixPosition i pos s).bank = s.bank ∧ (unfixPosition i pos s).run = s.run ∧ (unfixPosition i pos s).store = s.store ∧
    (unfixPosition i pos s).storeWork = s.storeWork ∧
    (∀ p : PlaceNo, p ∉ s.bank[i].placesOf pos → (unfixPosition i pos s).places[p].fixed = s.places[p].fixed) ∧
    (∀ k : SlotNo, (unfixPosition i pos s).slots[k] = if k ∈ positionSlots s i pos then s.slots[k].map releaseRecord else s.slots[k]) := by
  obtain ⟨fr, pl, sl⟩ := released_facts i pos s
  rw [unfixPosition_eq]
  have hw : ∀ (l : List SlotNo) u, BankWork u (l.foldl (fun s k => applyEligibility k s) u) :=
    fun l u => BankWork.foldl _ (fun s k => applyEligibility_work k s) l u
  have he : ∀ (l : List SlotNo) u (p : PlaceNo), (l.foldl (fun s k => applyEligibility k s) u).places[p].fixed = u.places[p].fixed := by
    intro l
    induction l with
    | nil => exact fun _ _ => rfl
    | cons a l ih => exact fun u p => (ih _ p).trans (applyEligibility_emptied a u p).1
  have := (hw (positionSlots s i pos) (released i pos s)).fields
  refine ⟨?_, ?_, ?_, ?_, fun p hp => ?_, fun k => ?_⟩
  · simp only [this]; rw [fr]
  · simp only [this]; rw [fr]
  · simp only [this]; rw [fr]
  · simp only [this]; rw [fr]
  · rw [he, pl, if_neg hp]
  · simp only [this]; exact sl k

/-- UNFIX. -/
theorem unfixWithRun_consistent {s : State} (h : Consistent s) (hb : BankSound s.bank) {i : StringNo} {pos : Nat}
    (hc : pos < s.bank[i].count) (he : s.bank[i].enabled = true) (hr : runRefusal s i = none) : Consistent (unfixWithRun i pos s) := by
  obtain ⟨f1, f2, -, -, f3, f4⟩ := unfixPosition_facts i pos s
  have p1 := h.1.unfixPosition he hc hb
  unfold unfixWithRun
  have hw := (disturbIfProcessed_work i (unfixPosition i pos s)).fields
  have hrun := disturbIfProcessed_run i (unfixPosition i pos s)
  generalize disturbIfProcessed i (unfixPosition i pos s) = u at *
  refine ⟨p1.congr (by simp only [hw]) (by simp only [hw]) (fun _ => by simp only [hw]) (fun _ => by simp only [hw]; exact id), ?_⟩
  intro r' h1 h2
  rw [hrun, f2, Option.map_eq_some_iff] at h1
  obtain ⟨r, hr', rfl⟩ := h1
  simp only [Bool.or_eq_false_iff] at h2
  obtain ⟨h2, h3⟩ := h2
  have := (h.2 r hr' h2).other (t := u) (slots := []) (i := i) (by simp only [hw, f1]) hb
    (fun p hp => by simp only [hw]; exact f3 p fun hm => hp pos ⟨he, hc, hm⟩) (runRefusal_none hr hr') h3
    (fun k m hm hg _ => by
      simp only [hw]
      rw [f4]
      split
      · rw [hm]; simp [standing, releaseRecord, hg]
      · rfl) (fun _ _ hm => nomatch hm)
  rw [strikeIn_nil] at this
  exact this.marks _ _

/-! ## FIX ALL and UNFIX ALL -/

/-- The positions FIX ALL and UNFIX ALL visit are positions of enabled strings. -/
theorem mem_enabledPositions {b : BankMap} {i : StringNo} {pos : Nat} (h : (i, pos) ∈ enabledPositions b) :
    b[i].enabled = true ∧ pos < b[i].count := by
  unfold enabledPositions at h
  obtain ⟨j, -, hj⟩ := List.mem_flatMap.1 h
  split at hj
  · obtain ⟨x, hx, e⟩ := List.mem_map.1 hj
    cases e
    exact ⟨by assumption, List.mem_range.1 hx⟩
  · cases hj

/-- Fixing positions one after another (R108). -/
theorem fixAll_all (b : BankMap) (l : List (StringNo × Nat)) (hl : ∀ a ∈ l, a ∈ enabledPositions b) (hb : BankSound b) (acc : State × Nat)
    (h : PlacesAll acc.1) (e : acc.1.bank = b) :
    PlacesAll (l.foldl fixIfFilled acc).1 ∧ (l.foldl fixIfFilled acc).1.bank = b ∧ (l.foldl fixIfFilled acc).1.run = acc.1.run ∧
      (l.foldl fixIfFilled acc).1.store = acc.1.store ∧ (l.foldl fixIfFilled acc).1.storeWork = acc.1.storeWork := by
  induction l generalizing acc with
  | nil => exact ⟨h, e, rfl, rfl, rfl⟩
  | cons a l ih =>
    rw [List.foldl_cons]
    have hl' : ∀ a ∈ l, a ∈ enabledPositions b := fun x hx => hl x (List.mem_cons_of_mem _ hx)
    obtain ⟨e1, e2⟩ := mem_enabledPositions (hl a List.mem_cons_self)
    by_cases hg : positionFixed acc.1 a.1 a.2 = false ∧ positionFilled acc.1 a.1 a.2 = true
    · obtain ⟨f1, f2, f3, f4, -⟩ := fixPosition_facts a.1 a.2 acc.1
      rw [show fixIfFilled acc a = (fixPosition a.1 a.2 acc.1, acc.2 + 1) from if_pos hg]
      have := ih hl' (fixPosition a.1 a.2 acc.1, acc.2 + 1) (h.fixPosition (by rw [e]; exact e1) (by rw [e]; exact e2) (by rw [e]; exact hb) hg.1 hg.2)
        (f1.trans e)
      exact ⟨this.1, this.2.1, this.2.2.1.trans f2, this.2.2.2.1.trans f3, this.2.2.2.2.trans f4⟩
    · rw [show fixIfFilled acc a = acc from if_neg hg]
      exact ih hl' acc h e

/-- Unfixing positions one after another (R109). -/
theorem unfixAll_all (b : BankMap) (l : List (StringNo × Nat)) (hl : ∀ a ∈ l, a ∈ enabledPositions b) (hb : BankSound b) (acc : State × Nat)
    (h : PlacesAll acc.1) (e : acc.1.bank = b) :
    PlacesAll (l.foldl unfixIfFixed acc).1 ∧ (l.foldl unfixIfFixed acc).1.bank = b ∧ (l.foldl unfixIfFixed acc).1.run = acc.1.run ∧
      (l.foldl unfixIfFixed acc).1.store = acc.1.store ∧ (l.foldl unfixIfFixed acc).1.storeWork = acc.1.storeWork := by
  induction l generalizing acc with
  | nil => exact ⟨h, e, rfl, rfl, rfl⟩
  | cons a l ih =>
    rw [List.foldl_cons]
    have hl' : ∀ a ∈ l, a ∈ enabledPositions b := fun x hx => hl x (List.mem_cons_of_mem _ hx)
    obtain ⟨e1, e2⟩ := mem_enabledPositions (hl a List.mem_cons_self)
    by_cases hg : positionFixed acc.1 a.1 a.2 = true
    · obtain ⟨f1, f2, f3, f4, -⟩ := unfixPosition_facts a.1 a.2 acc.1
      rw [show unfixIfFixed acc a = (unfixPosition a.1 a.2 acc.1, acc.2 + 1) from if_pos hg]
      have := ih hl' (unfixPosition a.1 a.2 acc.1, acc.2 + 1) (h.unfixPosition (by rw [e]; exact e1) (by rw [e]; exact e2) (by rw [e]; exact hb))
        (f1.trans e)
      exact ⟨this.1, this.2.1, this.2.2.1.trans f2, this.2.2.2.1.trans f3, this.2.2.2.2.trans f4⟩
    · rw [show unfixIfFixed acc a = acc from if_neg hg]
      exact ih hl' acc h e

/-! ## The candidate list -/

/-- Inserting a candidate adds it and loses none. -/
theorem insertCandidate_perm (c : Candidate) (l : List Candidate) : (insertCandidate c l).Perm (c :: l) := by
  induction l with
  | nil => exact .refl _
  | cons d l ih =>
    unfold insertCandidate
    split
    · exact .refl _
    · exact (ih.cons d).trans (.swap _ _ _)

/-- The candidate list holds the entries of the slots, in some order (R117, R118). -/
theorem candidateList_perm (s : State) : (candidateList s).Perm ((List.finRange 64).filterMap (candidateOf s)) := by
  unfold candidateList
  induction (List.finRange 64).filterMap (candidateOf s) with
  | nil => exact .refl _
  | cons c l ih => exact (insertCandidate_perm _ _).trans (ih.cons c)

/-- A candidate is GRADED with the grade it was listed with (R117, R118). -/
theorem candidateOf_some {s : State} {i : SlotNo} {c : Candidate} (h : candidateOf s i = some c) :
    c.slot = i ∧ ∃ m, s.slots[i] = some m ∧ m.state = .graded ∧ m.grade = c.grade := by
  unfold candidateOf at h
  split at h <;> [cases h; skip]
  rename_i m hm
  split at h <;> [cases h; skip]
  split at h <;> cases h
  rename_i hg
  exact ⟨rfl, m, hm, hg.1, rfl⟩

/-- A run at its start is sound (R116 to R118). -/
theorem newRun_but (s : State) (n : Nat) : RunBut (fun _ => False) s (newRun s n) := by
  have hp := candidateList_perm s
  refine ⟨?_, ?_, ?_, nofun, List.nodup_nil, nofun, nofun, nofun⟩
  · show ((candidateList s).map (·.slot)).Nodup
    rw [(hp.map _).nodup_iff, List.map_filterMap]
    refine List.Nodup.filterMap ?_ (List.nodup_finRange 64)
    intro a a' b ha ha'
    simp only [Option.mem_def, Option.map_eq_some_iff] at ha ha'
    obtain ⟨c, hc, rfl⟩ := ha
    obtain ⟨c', hc', e⟩ := ha'
    rw [← (candidateOf_some hc).1, ← (candidateOf_some hc').1, e]
  · intro c hc _ _
    obtain ⟨i, -, hi⟩ := List.mem_filterMap.1 (hp.mem_iff.1 hc)
    obtain ⟨rfl, h⟩ := candidateOf_some hi
    exact h
  · exact List.nodup_nil

/-! ## Opening -/

/-- The next string is enabled, above the last processed one, with every enabled string below it processed (R120). -/
theorem nextString_some {b : BankMap} {last : Option StringNo} {i : StringNo} (h : nextString b last = some i) :
    b[i].enabled = true ∧ (∀ l, last = some l → l < i) ∧
      ∀ j : StringNo, j < i → b[j].enabled = true → ∃ l, last = some l ∧ j ≤ l := by
  unfold nextString at h
  rw [List.find?_eq_some_iff_getElem] at h
  obtain ⟨h1, n, hn, h2, h3⟩ := h
  rw [Bool.and_eq_true] at h1
  refine ⟨h1.1, fun l hl => ?_, fun j hj he => ?_⟩
  · subst hl; simpa using h1.2
  · have e : n = i.val := by
      rw [← h2]; simp
    have := h3 j.val (by show j.val < _; rw [e]; exact hj)
    simp only [List.getElem_finRange] at this
    simp at this
    have he : b[j.val].enabled = true := he
    rw [he] at this
    cases last with
    | none => simp at this
    | some l => exact ⟨l, rfl, by simpa using this⟩

/-- With no next string every enabled string is processed (R126). -/
theorem nextString_none {b : BankMap} {last : Option StringNo} (h : nextString b last = none) (j : StringNo)
    (he : b[j].enabled = true) : ∃ l, last = some l ∧ j ≤ l := by
  unfold nextString at h
  have := (List.find?_eq_none.1 h) j (List.mem_finRange j)
  rw [he, Bool.true_and] at this
  cases last with
  | none => simp at this
  | some l => exact ⟨l, rfl, by simpa using this⟩

/-- A string that the run has come to is processed with choices that are sound. -/
theorem RunBut.process {s : State} {r : PlanningRun} {cs : List Candidate} {e : TentativeEntry}
    (h : RunBut (fun _ => False) s r) (listed : (cs.map (·.slot)).Nodup)
    (graded : ∀ c ∈ cs, c.struck = false → ∃ m, s.slots[c.slot] = some m ∧ m.state = .graded ∧ m.grade = c.grade)
    (same : ∀ c ∈ r.candidates, ∃ d ∈ cs, d.slot = c.slot ∧ d.grade = c.grade)
    (he : s.bank[e.string].enabled = true) (hl : ∀ l, r.lastProcessed = some l → l < e.string)
    (hj : ∀ j : StringNo, j < e.string → s.bank[j].enabled = true → ∃ x ∈ r.tentative, x.string = j)
    (once : ((r.tentative.flatMap fun e => chosenSlots e.choices) ++ chosenSlots e.choices).Nodup)
    (taken : ∀ i ∈ (r.tentative.flatMap fun e => chosenSlots e.choices) ++ chosenSlots e.choices,
      ∃ c ∈ cs, c.slot = i ∧ c.taken = true ∧ c.struck = false)
    (fit : choicesFit s.bank[e.string] { r with candidates := cs } e.choices)
    (hp : e.planned = true → e.choices.map (·.position) = openPositions s e.string)
    (hn : e.planned = false → e.choices = []) :
    RunBut (fun _ => False) s (processed { r with candidates := cs } e) := by
  have lt : ∀ x ∈ r.tentative, x.string < e.string := fun x hx => by
    obtain ⟨-, ⟨l, h1, h2⟩, -⟩ := h.entries x hx
    exact Fin.lt_of_le_of_lt h2 (hl l h1)
  have ch : (processed { r with candidates := cs } e).chosen =
      (r.tentative.flatMap fun e => chosenSlots e.choices) ++ chosenSlots e.choices := by
    simp [PlanningRun.chosen, processed]
  refine ⟨listed, fun c hc hs _ => graded c hc hs, by rw [ch]; exact once, by rw [ch]; exact taken, ?_, ?_, nofun, ?_⟩
  · show ((r.tentative ++ [e]).map (·.string)).Nodup
    rw [List.map_append, List.nodup_append]
    refine ⟨h.strings, List.nodup_singleton _, fun a ha b hb => ?_⟩
    obtain ⟨x, hx, rfl⟩ := List.mem_map.1 ha
    rw [List.map_singleton, List.mem_singleton] at hb
    subst hb
    exact (Fin.ne_of_lt (lt x hx))
  · intro x hx
    rcases List.mem_append.1 hx with hx | hx
    · obtain ⟨h1, -, h3, h4, h5⟩ := h.entries x hx
      refine ⟨h1, ⟨e.string, rfl, Fin.le_of_lt (lt x hx)⟩, fun y hy => ?_, h4, h5⟩
      obtain ⟨h6, h7⟩ := h3 y hy
      refine ⟨h6, fun k hk => ?_⟩
      obtain ⟨c, hc, h8, h9⟩ := h7 k hk
      obtain ⟨d, hd, k1, k2⟩ := same c hc
      exact ⟨d, hd, k1.trans h8, by rw [k2]; exact h9⟩
    · rw [List.mem_singleton] at hx
      subst hx
      exact ⟨he, ⟨_, rfl, Fin.le_refl _⟩, fit, hp, hn⟩
  · rintro l ⟨⟩ j hj' hej
    by_cases hlt : j < e.string
    · obtain ⟨x, hx, h1⟩ := hj j hlt hej
      exact ⟨x, List.mem_append_left _ hx, h1⟩
    · exact ⟨e, List.mem_append_right _ (List.mem_singleton.2 rfl), Fin.le_antisymm (Fin.not_lt.1 hlt) hj'⟩

/-- The opening of a string keeps the run sound (R120). -/
theorem openString_but {s : State} {r : PlanningRun} {i : StringNo} (h : RunBut (fun _ => False) s r) (hc : r.current = none)
    (hi : nextString s.bank r.lastProcessed = some i) : RunBut (fun _ => False) s (openString s r i) := by
  obtain ⟨he, hl, hj⟩ := nextString_some hi
  have hj' : ∀ j : StringNo, j < i → s.bank[j].enabled = true → ∃ x ∈ r.tentative, x.string = j := fun j hlt hej => by
    obtain ⟨l, h1, h2⟩ := hj j hlt hej
    exact h.covered l h1 j h2 hej
  have ch : r.chosen = r.tentative.flatMap fun e => chosenSlots e.choices := by simp [PlanningRun.chosen, hc]
  unfold openString
  dsimp only
  split
  · rename_i ho
    have := h.process (cs := r.candidates) (e := { string := i, planned := true, reference := fixedReference s i, choices := [] })
      h.listed (fun c hc hs => h.graded c hc hs id) (fun c hc => ⟨c, hc, rfl, rfl⟩) he hl hj'
      (by simpa [chosenSlots, ch] using h.once) (by simpa [chosenSlots, ch] using h.taken) nofun (fun _ => ho.symm) (fun _ => rfl)
    exact this
  · rename_i p ps ho
    refine ⟨h.listed, h.graded, ?_, ?_, h.strings, h.entries, ?_, h.covered⟩
    · have := h.once; rw [ch] at this; simpa [PlanningRun.chosen, chosenSlots] using this
    · have := h.taken; rw [ch] at this; simpa [PlanningRun.chosen, chosenSlots] using this
    · rintro c ⟨⟩
      exact ⟨he, hl, nofun, ho.symm, hj'⟩

/-! ## Filling -/

/-- Marking entries as taken keeps their slots. -/
theorem markTaken_slots (l : List SlotNo) (v : Bool) (cs : List Candidate) :
    (markTaken l v cs).map (·.slot) = cs.map (·.slot) := by
  simp only [markTaken, List.map_map]
  refine List.map_congr_left fun c _ => ?_
  simp only [Function.comp]
  split <;> rfl

/-- Each candidate after some are marked. -/
theorem markTaken_mem {l : List SlotNo} {v : Bool} {cs : List Candidate} {d : Candidate} :
    d ∈ markTaken l v cs ↔ ∃ c ∈ cs, d = if c.slot ∈ l then { c with taken := v } else c := by
  simp [markTaken, eq_comm]

/-- A candidate is eligible when it is not taken, not struck, of the family, and its grade in the mask (R121). -/
theorem candidateEligible_iff (b : BankString) (c : Candidate) :
    candidateEligible b c = true ↔ c.taken = false ∧ c.struck = false ∧ c.family = b.family ∧ b.gradeMask.getLsbD c.grade = true := by
  simp [candidateEligible, and_assoc]

/-- A pair is two eligible candidates, in list order (R122). -/
theorem choosePair_some {b : BankString} {ref : Option Nat} {cs : List Candidate} {a c : Candidate}
    (h : choosePair b ref cs = some (a, c)) : [a, c].Sublist cs ∧ candidateEligible b a = true ∧ candidateEligible b c = true := by
  induction cs with
  | nil => cases h
  | cons d l ih =>
    unfold choosePair at h
    split at h
    · rename_i hd
      split at h
      · rename_i x hx
        cases h
        rw [Bool.and_eq_true] at hd
        refine ⟨.cons_cons _ (List.singleton_sublist.2 (List.mem_of_find?_eq_some hx)), hd.1, ?_⟩
        have := List.find?_some hx
        unfold pairFits at this
        split at this
        · simp only [Bool.and_eq_true] at this; exact this.1.1
        · cases this
      · obtain ⟨h1, h2⟩ := ih h
        exact ⟨h1.cons _, h2⟩
    · obtain ⟨h1, h2⟩ := ih h
      exact ⟨h1.cons _, h2⟩

/-- What a position is filled with. -/
theorem chooseFor_some {b : BankString} {ref : Option Nat} {cs : List Candidate} {slots : List SlotNo} {key : Nat}
    (hn : (cs.map (·.slot)).Nodup) (h : chooseFor b ref cs = some (slots, key)) :
    slots.Nodup ∧ slots.length = (if b.kind = .single then 1 else 2) ∧
      ∀ i ∈ slots, ∃ c ∈ cs, c.slot = i ∧ candidateEligible b c = true := by
  unfold chooseFor at h
  split at h
  · rename_i hk
    rw [Option.map_eq_some_iff] at h
    obtain ⟨c, hc, e⟩ := h
    cases e
    have := List.find?_some hc
    rw [Bool.and_eq_true] at this
    refine ⟨List.nodup_singleton _, by simp [hk], fun i hi => ?_⟩
    rw [List.mem_singleton] at hi
    exact ⟨c, List.mem_of_find?_eq_some hc, hi.symm, this.1⟩
  · rename_i hk
    rw [Option.map_eq_some_iff] at h
    obtain ⟨⟨a, c⟩, hc, e⟩ := h
    cases e
    obtain ⟨h1, h2, h3⟩ := choosePair_some hc
    refine ⟨List.Nodup.sublist (h1.map Candidate.slot) hn, by simp [hk], fun i hi => ?_⟩
    simp only [List.mem_cons, List.not_mem_nil, or_false] at hi
    rcases hi with rfl | rfl
    · exact ⟨a, h1.subset (by simp), rfl, h2⟩
    · exact ⟨c, h1.subset (by simp), rfl, h3⟩

/-- Two listed candidates with the same slot are one. -/
theorem slot_unique {cs : List Candidate} (h : (cs.map (·.slot)).Nodup) {a b : Candidate} (ha : a ∈ cs) (hb : b ∈ cs)
    (e : a.slot = b.slot) : a = b := List.inj_on_of_nodup_map h ha hb e

/-- The filling of a position keeps the run sound (R121 to R124). -/
theorem fillString_but {s : State} {r : PlanningRun} {c : CurrentString} (h : RunBut (fun _ => False) s r) (hb : BankSound s.bank)
    (hc : r.current = some c) : RunBut (fun _ => False) s (fillString s.bank r c) := by
  obtain ⟨he, hl, hfit, hpos, hj⟩ := h.current c hc
  have ch : r.chosen = (r.tentative.flatMap fun e => chosenSlots e.choices) ++ chosenSlots c.choices := by
    simp [PlanningRun.chosen, hc]
  have ho := h.once
  rw [ch] at ho
  have ht := h.taken
  rw [ch] at ht
  unfold fillString
  split
  · exact h
  · rename_i pos rest htf
    split
    · refine h.process (cs := markTaken (chosenSlots c.choices) false r.candidates)
        (e := { string := c.string, planned := false, reference := c.fixedReference, choices := [] })
        (by rw [markTaken_slots]; exact h.listed) ?_ ?_ he hl hj ?_ ?_ nofun nofun (fun _ => rfl)
      · intro d hd hs
        obtain ⟨x, hx, rfl⟩ := markTaken_mem.1 hd
        by_cases hm : x.slot ∈ chosenSlots c.choices
        · rw [if_pos hm] at hs ⊢; exact h.graded x hx hs id
        · rw [if_neg hm] at hs ⊢; exact h.graded x hx hs id
      · intro x hx
        refine ⟨_, markTaken_mem.2 ⟨x, hx, rfl⟩, ?_⟩
        split <;> exact ⟨rfl, rfl⟩
      · simpa [chosenSlots] using (List.nodup_append.1 ho).1
      · intro i hi
        have hi : i ∈ r.tentative.flatMap fun e => chosenSlots e.choices := by simpa [chosenSlots] using hi
        obtain ⟨x, hx, h1, h2⟩ := ht i (List.mem_append_left _ hi)
        refine ⟨x, markTaken_mem.2 ⟨x, hx, ?_⟩, h1, h2⟩
        rw [if_neg]
        intro hm
        exact (List.nodup_append.1 ho).2.2 i hi i (h1 ▸ hm) rfl
    · rename_i slots key hch
      obtain ⟨n1, n2, n3⟩ := chooseFor_some h.listed hch
      have fresh : ∀ i ∈ slots, i ∉ r.chosen := by
        intro i hi hic
        obtain ⟨x, hx, rfl, h1⟩ := n3 i hi
        obtain ⟨y, hy, h2, h3, -⟩ := h.taken _ hic
        rw [slot_unique h.listed hy hx h2] at h3
        rw [((candidateEligible_iff _ _).1 h1).1] at h3
        cases h3
      have listed : ((markTaken slots true r.candidates).map (·.slot)).Nodup := by rw [markTaken_slots]; exact h.listed
      have graded : ∀ d ∈ markTaken slots true r.candidates, d.struck = false →
          ∃ m, s.slots[d.slot] = some m ∧ m.state = .graded ∧ m.grade = d.grade := by
        intro d hd hs
        obtain ⟨x, hx, rfl⟩ := markTaken_mem.1 hd
        by_cases hm : x.slot ∈ slots
        · rw [if_pos hm] at hs ⊢; exact h.graded x hx hs id
        · rw [if_neg hm] at hs ⊢; exact h.graded x hx hs id
      have same : ∀ x ∈ r.candidates, ∃ d ∈ markTaken slots true r.candidates, d.slot = x.slot ∧ d.grade = x.grade := by
        intro x hx
        refine ⟨_, markTaken_mem.2 ⟨x, hx, rfl⟩, ?_⟩
        split <;> exact ⟨rfl, rfl⟩
      have chc : chosenSlots (c.choices ++ [{ position := pos, slots := slots }]) = chosenSlots c.choices ++ slots := by
        simp [chosenSlots]
      have once : ((r.tentative.flatMap fun e => chosenSlots e.choices) ++
          chosenSlots (c.choices ++ [{ position := pos, slots := slots }])).Nodup := by
        rw [chc, ← List.append_assoc, ← ch]
        exact List.nodup_append.2 ⟨h.once, n1, fun a ha b hb e => fresh b hb (e ▸ ha)⟩
      have taken : ∀ i ∈ (r.tentative.flatMap fun e => chosenSlots e.choices) ++
          chosenSlots (c.choices ++ [{ position := pos, slots := slots }]),
          ∃ x ∈ markTaken slots true r.candidates, x.slot = i ∧ x.taken = true ∧ x.struck = false := by
        rw [chc, ← List.append_assoc, ← ch]
        intro i hi
        rcases List.mem_append.1 hi with hi | hi
        · obtain ⟨x, hx, h1, h2, h3⟩ := h.taken i hi
          refine ⟨_, markTaken_mem.2 ⟨x, hx, rfl⟩, ?_⟩
          split <;> [exact ⟨h1, rfl, h3⟩; exact ⟨h1, h2, h3⟩]
        · obtain ⟨x, hx, h1, h2⟩ := n3 i hi
          refine ⟨_, markTaken_mem.2 ⟨x, hx, rfl⟩, ?_⟩
          rw [if_pos (h1 ▸ hi)]
          exact ⟨h1, rfl, ((candidateEligible_iff _ _).1 h2).2.1⟩
      have hcount : pos < s.bank[c.string].count := by
        have : pos ∈ openPositions s c.string := by rw [← hpos, htf]; simp
        exact List.mem_range.1 (List.mem_filter.1 this).1
      have fit : choicesFit s.bank[c.string] { r with candidates := markTaken slots true r.candidates }
          (c.choices ++ [{ position := pos, slots := slots }]) := by
        intro y hy
        rcases List.mem_append.1 hy with hy | hy
        · obtain ⟨h1, h2⟩ := hfit y hy
          refine ⟨h1, fun k hk => ?_⟩
          obtain ⟨x, hx, h3, h4⟩ := h2 k hk
          obtain ⟨d, hd, k1, k2⟩ := same x hx
          exact ⟨d, hd, k1.trans h3, by rw [k2]; exact h4⟩
        · rw [List.mem_singleton] at hy
          subst hy
          refine ⟨by rw [(placesOf_full _ (hb.within _ he) hcount).1]; exact n2, fun k hk => ?_⟩
          obtain ⟨x, hx, h3, h4⟩ := n3 k hk
          obtain ⟨d, hd, k1, k2⟩ := same x hx
          exact ⟨d, hd, k1.trans h3, by rw [k2]; exact ((candidateEligible_iff _ _).1 h4).2.2.2⟩
      unfold fillPosition
      dsimp only
      split
      · refine h.process (cs := markTaken slots true r.candidates)
          (e := { string := c.string, planned := true, reference := c.reference.or (some key),
                  choices := c.choices ++ [{ position := pos, slots := slots }] })
          listed graded same he hl hj once taken fit (fun _ => ?_) nofun
        rw [← hpos, htf, List.map_append]; rfl
      · rename_i p ps
        refine ⟨listed, fun d hd hs _ => graded d hd hs, by simpa [PlanningRun.chosen] using once,
          by simpa [PlanningRun.chosen] using taken, h.strings, fun x hx => ?_, ?_, h.covered⟩
        · obtain ⟨h1, h2, h3, h4, h5⟩ := h.entries x hx
          refine ⟨h1, h2, fun y hy => ?_, h4, h5⟩
          obtain ⟨h6, h7⟩ := h3 y hy
          refine ⟨h6, fun k hk => ?_⟩
          obtain ⟨x, hx, h8, h9⟩ := h7 k hk
          obtain ⟨d, hd, k1, k2⟩ := same x hx
          exact ⟨d, hd, k1.trans h8, by rw [k2]; exact h9⟩
        · rintro c' ⟨⟩
          refine ⟨he, hl, fit, ?_, hj⟩
          rw [← hpos, htf]; simp

/-! ## Adoption -/

/-- Updating places one after another, each with a slot. -/
def assign (l : List (PlaceNo × SlotNo)) (s : State) : State :=
  l.foldl (fun s x => updatePlace x.1 (fun q => { q with slot := some x.2 }) s) s

/-- Assigning in two parts. -/
theorem assign_append (a b : List (PlaceNo × SlotNo)) (s : State) : assign (a ++ b) s = assign b (assign a s) :=
  List.foldl_append

/-- Assigning slots to places is work on the places. -/
theorem assign_work (l : List (PlaceNo × SlotNo)) (s : State) : BankWork s (assign l s) ∧ (assign l s).records = s.records := by
  unfold assign
  induction l generalizing s with
  | nil => exact ⟨.refl s, rfl⟩
  | cons x l ih =>
    have := ih (updatePlace x.1 (fun q => { q with slot := some x.2 }) s)
    exact ⟨BankWork.trans (t := updatePlace x.1 (fun q => { q with slot := some x.2 }) s) rfl this.1, this.2⟩

/-- Assigning slots keeps the marks of places. -/
theorem assign_marks (l : List (PlaceNo × SlotNo)) (s : State) (p : PlaceNo) :
    (assign l s).places[p].fixed = s.places[p].fixed ∧ (assign l s).places[p].alarm = s.places[p].alarm := by
  unfold assign
  induction l generalizing s with
  | nil => exact ⟨rfl, rfl⟩
  | cons x l ih =>
    obtain ⟨h1, h2⟩ := ih (updatePlace x.1 (fun q => { q with slot := some x.2 }) s)
    rw [List.foldl_cons, h1, h2, updatePlace_place]
    split <;> exact ⟨rfl, rfl⟩

/-- The slot of a place after assigning slots to distinct places. -/
theorem assign_slot (l : List (PlaceNo × SlotNo)) (hl : (l.map Prod.fst).Nodup) (s : State) (p : PlaceNo) :
    (p ∉ l.map Prod.fst ∧ (assign l s).places[p].slot = s.places[p].slot) ∨
      ∃ k, (p, k) ∈ l ∧ (assign l s).places[p].slot = some k := by
  unfold assign
  induction l generalizing s with
  | nil => exact .inl ⟨nofun, rfl⟩
  | cons x l ih =>
    rw [List.map_cons, List.nodup_cons] at hl
    rw [List.foldl_cons]
    rcases ih hl.2 (updatePlace x.1 (fun q => { q with slot := some x.2 }) s) with ⟨h1, h2⟩ | ⟨k, h1, h2⟩
    · rw [h2, updatePlace_place]
      by_cases hx : x.1 = p
      · subst hx
        exact .inr ⟨x.2, List.mem_cons_self, by rw [if_pos rfl]⟩
      · rw [if_neg hx]
        exact .inl ⟨by simp [Ne.symm hx, h1], rfl⟩
    · exact .inr ⟨k, List.mem_cons_of_mem _ h1, h2⟩

/-- The places and slots of the choices of processed strings. -/
def pairsOf (b : BankMap) (es : List TentativeEntry) : List (PlaceNo × SlotNo) :=
  es.flatMap fun e => e.choices.flatMap fun c => (b[e.string].placesOf c.position).zip c.slots

/-- Filling a position assigns its choice (R127). -/
theorem fillPlaces_eq (i : StringNo) (s : State) (c : Choice) :
    fillPlaces i s c = assign ((s.bank[i].placesOf c.position).zip c.slots) s := rfl

/-- The second pass on one string assigns its choices (R127). -/
theorem fillStringPlaces_eq (s : State) (e : TentativeEntry) :
    fillStringPlaces s e = assign (e.choices.flatMap fun c => (s.bank[e.string].placesOf c.position).zip c.slots) s := by
  unfold fillStringPlaces
  generalize e.choices = cs
  induction cs generalizing s with
  | nil => rfl
  | cons c cs ih =>
    rw [List.foldl_cons, ih, List.flatMap_cons, assign_append, fillPlaces_eq]
    simp only [(assign_work _ s).1.fields]

/-- The second pass assigns the choices of the processed strings (R127). -/
theorem secondPass_eq (es : List TentativeEntry) (s : State) : es.foldl fillStringPlaces s = assign (pairsOf s.bank es) s := by
  unfold pairsOf
  induction es generalizing s with
  | nil => rfl
  | cons e es ih =>
    rw [List.foldl_cons, ih, List.flatMap_cons, assign_append, fillStringPlaces_eq]
    simp only [(assign_work _ s).1.fields]

/-- The first pass on one string. -/
theorem emptyString_facts (s : State) (i : StringNo) :
    BankWork s (emptyString s i) ∧ (emptyString s i).records = s.records ∧
    (∀ p : PlaceNo, (emptyString s i).places[p].fixed = s.places[p].fixed ∧ (emptyString s i).places[p].alarm = s.places[p].alarm) ∧
    (∀ p : PlaceNo, (emptyString s i).places[p].slot =
      if ∃ pos ∈ openPositions s i, p ∈ s.bank[i].placesOf pos then none else s.places[p].slot) := by
  unfold emptyString openPositions
  generalize (List.range s.bank[i].count).filter (fun pos => !positionFixed s i pos) = l
  induction l generalizing s with
  | nil => exact ⟨.refl s, rfl, fun _ => ⟨rfl, rfl⟩, fun _ => by simp⟩
  | cons a l ih =>
    rw [List.foldl_cons]
    have hw := updatePlaces_work (s.bank[i].placesOf a) (fun p => { p with slot := none }) s
    have hp := updatePlaces_place (s.bank[i].placesOf a) (fun p => { p with slot := none }) (fun _ => rfl) s
    obtain ⟨h1, h2, h3, h4⟩ := ih (updatePlaces (s.bank[i].placesOf a) (fun p => { p with slot := none }) s)
    refine ⟨hw.trans h1, h2.trans (updatePlaces_records _ _ _), fun p => ?_, fun p => ?_⟩
    · rw [(h3 p).1, (h3 p).2, hp]
      split <;> exact ⟨rfl, rfl⟩
    · rw [h4, hp]
      have : (updatePlaces (s.bank[i].placesOf a) (fun p => { p with slot := none }) s).bank = s.bank := by simp only [hw.fields]
      rw [this]
      by_cases hl : ∃ pos ∈ l, p ∈ s.bank[i].placesOf pos
      · rw [if_pos hl, if_pos]
        obtain ⟨x, hx, h⟩ := hl
        exact ⟨x, List.mem_cons_of_mem _ hx, h⟩
      · rw [if_neg hl]
        by_cases ha : p ∈ s.bank[i].placesOf a
        · rw [if_pos ha, if_pos ⟨a, List.mem_cons_self, ha⟩]
        · rw [if_neg ha, if_neg]
          rintro ⟨x, hx, h⟩
          rcases List.mem_cons.1 hx with rfl | hx
          · exact ha h
          · exact hl ⟨x, hx, h⟩

/-- The first pass. -/
theorem firstPass_facts (es : List TentativeEntry) (s : State) :
    BankWork s (es.foldl (fun s e => emptyString s e.string) s) ∧ (es.foldl (fun s e => emptyString s e.string) s).records = s.records ∧
    (∀ p : PlaceNo, (es.foldl (fun s e => emptyString s e.string) s).places[p].fixed = s.places[p].fixed ∧
      (es.foldl (fun s e => emptyString s e.string) s).places[p].alarm = s.places[p].alarm) ∧
    (∀ p : PlaceNo, (es.foldl (fun s e => emptyString s e.string) s).places[p].slot =
      if ∃ e ∈ es, ∃ pos ∈ openPositions s e.string, p ∈ s.bank[e.string].placesOf pos then none else s.places[p].slot) := by
  induction es generalizing s with
  | nil => exact ⟨.refl s, rfl, fun _ => ⟨rfl, rfl⟩, fun _ => by simp⟩
  | cons e es ih =>
    rw [List.foldl_cons]
    obtain ⟨k1, k2, k3, k4⟩ := emptyString_facts s e.string
    obtain ⟨h1, h2, h3, h4⟩ := ih (emptyString s e.string)
    have hb : (emptyString s e.string).bank = s.bank := by simp only [k1.fields]
    have ho : ∀ j, openPositions (emptyString s e.string) j = openPositions s j := openPositions_congr hb fun p => (k3 p).1
    refine ⟨k1.trans h1, h2.trans k2, fun p => ⟨(h3 p).1.trans (k3 p).1, (h3 p).2.trans (k3 p).2⟩, fun p => ?_⟩
    rw [h4, k4, hb]
    simp only [ho]
    by_cases hl : ∃ e ∈ es, ∃ pos ∈ openPositions s e.string, p ∈ s.bank[e.string].placesOf pos
    · rw [if_pos hl, if_pos]
      obtain ⟨x, hx, h⟩ := hl
      exact ⟨x, List.mem_cons_of_mem _ hx, h⟩
    · rw [if_neg hl]
      by_cases ha : ∃ pos ∈ openPositions s e.string, p ∈ s.bank[e.string].placesOf pos
      · rw [if_pos ha, if_pos ⟨e, List.mem_cons_self, ha⟩]
      · rw [if_neg ha, if_neg]
        rintro ⟨x, hx, h⟩
        rcases List.mem_cons.1 hx with rfl | hx
        · exact ha h
        · exact hl ⟨x, hx, h⟩

/-- What the third pass leaves (R127). -/
theorem thirdPass_facts (es : List TentativeEntry) (s : State) :
    es.foldl adoptRecord s = { s with records := (es.foldl adoptRecord s).records } ∧
    ∀ i : StringNo, (es.foldl adoptRecord s).records[i].state = .planned →
      (∃ e ∈ es, e.string = i ∧ e.planned = true) ∨ ((∀ e ∈ es, e.string ≠ i) ∧ s.records[i].state = .planned) := by
  induction es generalizing s with
  | nil => exact ⟨rfl, fun i hi => .inr ⟨nofun, hi⟩⟩
  | cons e es ih =>
    rw [List.foldl_cons]
    obtain ⟨h1, h2⟩ := ih (adoptRecord s e)
    refine ⟨by rw [h1]; rfl, fun i hi => ?_⟩
    rcases h2 i hi with ⟨x, hx, h⟩ | ⟨h3, h4⟩
    · exact .inl ⟨x, List.mem_cons_of_mem _ hx, h⟩
    · unfold adoptRecord at h4
      rw [updateRecord_record] at h4
      split at h4
      · rename_i he
        left
        refine ⟨e, List.mem_cons_self, he, ?_⟩
        by_contra hn
        simp [hn] at h4
      · rename_i he
        right
        refine ⟨fun x hx => ?_, h4⟩
        rcases List.mem_cons.1 hx with rfl | hx
        · exact he
        · exact h3 x hx

/-- The assignments of an adoption, one by one. -/
theorem mem_pairsOf {b : BankMap} {es : List TentativeEntry} {p : PlaceNo} {k : SlotNo} :
    (p, k) ∈ pairsOf b es ↔ ∃ e ∈ es, ∃ c ∈ e.choices, (p, k) ∈ (b[e.string].placesOf c.position).zip c.slots := by
  simp [pairsOf]

/-- Adoption of a sound run with every string processed. -/
theorem PlacesBut.adopt {s : State} {r : PlanningRun} (h : PlacesAll s) (hb : BankSound s.bank) (hr : RunBut (fun _ => False) s r)
    (hc : r.current = none) (hn : nextString s.bank r.lastProcessed = none) : PlacesAll (adoptPlaces r.tentative s) := by
  have cov : ∀ j : StringNo, s.bank[j].enabled = true → ∃ e ∈ r.tentative, e.string = j := fun j he => by
    obtain ⟨l, h1, h2⟩ := nextString_none hn j he
    exact hr.covered l h1 j h2 he
  have ch : r.chosen = r.tentative.flatMap fun e => chosenSlots e.choices := by simp [PlanningRun.chosen, hc]
  obtain ⟨a1, a2, a3, a4⟩ := firstPass_facts r.tentative s
  let s1 := r.tentative.foldl (fun s e => emptyString s e.string) s
  have b1 : s1.bank = s.bank := by simp only [s1, a1.fields]
  let L := pairsOf s.bank r.tentative
  let s2 := r.tentative.foldl fillStringPlaces s1
  have e2 : s2 = assign L s1 := by
    show r.tentative.foldl fillStringPlaces s1 = assign (pairsOf s.bank r.tentative) s1
    rw [secondPass_eq, b1]
  let t := r.tentative.foldl adoptRecord s2
  show PlacesAll t
  obtain ⟨c1, c2⟩ := thirdPass_facts r.tentative s2
  have pl : t.places = (assign L s1).places := by rw [← e2]; show (r.tentative.foldl adoptRecord s2).places = _; rw [c1]
  have bk : t.bank = s.bank := by
    show (r.tentative.foldl adoptRecord s2).bank = _; rw [c1, e2]
    simp only [(assign_work L s1).1.fields, b1]
  have sl : t.slots = s.slots := by
    show (r.tentative.foldl adoptRecord s2).slots = _; rw [c1, e2]
    simp only [(assign_work L s1).1.fields]
    simp only [s1, a1.fields]
  have fx : ∀ p : PlaceNo, t.places[p].fixed = s.places[p].fixed := fun p => by
    rw [pl, (assign_marks L s1 p).1]; exact (a3 p).1
  have al : ∀ p : PlaceNo, t.places[p].alarm = s.places[p].alarm := fun p => by
    rw [pl, (assign_marks L s1 p).2]; exact (a3 p).2
  -- what a choice says
  have inL : ∀ p k, (p, k) ∈ L → ∃ e ∈ r.tentative, ∃ c ∈ e.choices, (p, k) ∈ (s.bank[e.string].placesOf c.position).zip c.slots ∧
      ownsPlace s.bank e.string c.position p ∧ s.places[p].fixed = false ∧ e.planned = true := by
    intro p k hL
    obtain ⟨e, he, c, hc', hz⟩ := mem_pairsOf.1 hL
    obtain ⟨h1, -, h3, h4, h5⟩ := hr.entries e he
    have hp : e.planned = true := by
      by_contra hp
      rw [h5 (by simpa using hp)] at hc'; cases hc'
    have ho : c.position ∈ openPositions s e.string := by rw [← h4 hp]; exact List.mem_map_of_mem hc'
    obtain ⟨o1, o2⟩ := List.mem_filter.1 ho
    have own : ownsPlace s.bank e.string c.position p := ⟨h1, List.mem_range.1 o1, (List.of_mem_zip hz).1⟩
    refine ⟨e, he, c, hc', hz, own, ?_, hp⟩
    by_contra hf
    have : positionFixed s e.string c.position = true := (positionFixed_iff _ _ _).2 fun q hq => by
      rw [(h.together _ _ q p ⟨own.1, own.2.1, hq⟩ own).1]; simpa using hf
    simp [this] at o2
  have chosen : ∀ e ∈ r.tentative, ∀ c ∈ e.choices, s.bank[e.string].enabled = true ∧ c.position < s.bank[e.string].count ∧
      c.slots.length = (s.bank[e.string].placesOf c.position).length ∧ (e.choices.map (·.position)).Nodup := by
    intro e he c hc'
    obtain ⟨h1, -, h3, h4, h5⟩ := hr.entries e he
    have hp : e.planned = true := by
      by_contra hp
      rw [h5 (by simpa using hp)] at hc'; cases hc'
    have ho : c.position ∈ openPositions s e.string := by rw [← h4 hp]; exact List.mem_map_of_mem hc'
    refine ⟨h1, List.mem_range.1 (List.mem_filter.1 ho).1, (h3 c hc').1, ?_⟩
    rw [h4 hp]
    exact List.nodup_range.filter _
  have nodupL : (L.map Prod.fst).Nodup := by
    have e1 : L.map Prod.fst = r.tentative.flatMap fun e => e.choices.flatMap fun c => s.bank[e.string].placesOf c.position := by
      show (r.tentative.flatMap _).map Prod.fst = _
      rw [List.map_flatMap]
      refine List.flatMap_congr fun e he => ?_
      rw [List.map_flatMap]
      refine List.flatMap_congr fun c hc' => ?_
      exact List.map_fst_zip (by rw [(chosen e he c hc').2.2.1])
    rw [e1, List.nodup_flatMap]
    refine ⟨fun e he => ?_, ?_⟩
    · rw [List.nodup_flatMap]
      refine ⟨fun c hc' => (placesOf_full _ (hb.within _ (chosen e he c hc').1) (chosen e he c hc').2.1).2, ?_⟩
      by_cases hne : e.choices = []
      · rw [hne]; exact List.Pairwise.nil
      · obtain ⟨c0, hc0⟩ := List.exists_mem_of_ne_nil _ hne
        have := (chosen e he c0 hc0).2.2.2
        rw [List.Nodup, List.pairwise_map] at this
        refine this.imp_of_mem fun {x y} hx hy hxy => ?_
        intro p hp hq
        exact hxy (ownsPlace.unique hb ⟨(chosen e he x hx).1, (chosen e he x hx).2.1, hp⟩
          ⟨(chosen e he y hy).1, (chosen e he y hy).2.1, hq⟩).2
    · have := hr.strings
      rw [List.Nodup, List.pairwise_map] at this
      refine this.imp_of_mem fun {x y} hx hy hxy => ?_
      intro p hp hq
      obtain ⟨c, hc1, hp⟩ := List.mem_flatMap.1 hp
      obtain ⟨d, hd1, hq⟩ := List.mem_flatMap.1 hq
      exact hxy (ownsPlace.unique hb ⟨(chosen x hx c hc1).1, (chosen x hx c hc1).2.1, hp⟩
        ⟨(chosen y hy d hd1).1, (chosen y hy d hd1).2.1, hq⟩).1
  have sndL : L.map Prod.snd = r.chosen := by
    rw [ch]
    show (r.tentative.flatMap _).map Prod.snd = _
    rw [List.map_flatMap]
    refine List.flatMap_congr fun e he => ?_
    rw [List.map_flatMap]
    refine List.flatMap_congr fun c hc' => ?_
    exact List.map_snd_zip (by rw [(chosen e he c hc').2.2.1])
  have empty1 : ∀ p : PlaceNo, s1.places[p].slot = if s.places[p].fixed then s.places[p].slot else none := by
    intro p
    rw [a4 p]
    by_cases hf : s.places[p].fixed = true
    · rw [if_neg, if_pos hf]
      rintro ⟨e, he, pos, ho, hm⟩
      obtain ⟨o1, o2⟩ := List.mem_filter.1 ho
      have own : ownsPlace s.bank e.string pos p := ⟨(hr.entries e he).1, List.mem_range.1 o1, hm⟩
      have : positionFixed s e.string pos = true := (positionFixed_iff _ _ _).2 fun q hq => by
        rw [(h.together _ _ q p ⟨own.1, own.2.1, hq⟩ own).1]; exact hf
      simp [this] at o2
    · rw [if_neg hf]
      split
      · rfl
      · rename_i hno
        by_contra hs
        obtain ⟨string, pos, ho⟩ := h.owned p (.inl hs)
        obtain ⟨e, he, rfl⟩ := cov string ho.1
        refine hno ⟨e, he, pos, List.mem_filter.2 ⟨List.mem_range.2 ho.2.1, ?_⟩, ho.2.2⟩
        have : positionFixed s e.string pos = false := by
          by_contra hpf
          exact hf ((positionFixed_iff _ _ _).1 (by simpa using hpf) p ho.2.2)
        rw [this]; rfl
  have st : ∀ (p : PlaceNo) k, t.places[p].slot = some k ↔
      (s.places[p].fixed = true ∧ s.places[p].slot = some k) ∨ (p, k) ∈ L := by
    intro p k
    rw [pl]
    rcases assign_slot L nodupL s1 p with ⟨h1, h2⟩ | ⟨k', h1, h2⟩
    · rw [h2, empty1]
      have : (p, k) ∉ L := fun hL => h1 (List.mem_map_of_mem (f := Prod.fst) hL)
      rw [or_iff_left this]
      by_cases hf : s.places[p].fixed = true
      · rw [if_pos hf]; exact ⟨fun e => ⟨hf, e⟩, And.right⟩
      · rw [if_neg hf]; exact ⟨nofun, fun e => absurd e.1 hf⟩
    · rw [h2]
      obtain ⟨-, -, -, -, -, -, hf, -⟩ := inL p k' h1
      rw [hf]
      simp only [Bool.false_eq_true, false_and, false_or, Option.some.injEq]
      refine ⟨fun e => e ▸ h1, fun hL => ?_⟩
      have := List.inj_on_of_nodup_map nodupL h1 hL rfl
      cases this; rfl
  have graded : ∀ p k, (p, k) ∈ L → ∃ m, s.slots[k] = some m ∧ m.state = .graded ∧
      ∃ string pos, ownsPlace s.bank string pos p ∧ s.bank[string].gradeMask.getLsbD m.grade = true := by
    intro p k hL
    obtain ⟨e, he, c, hc', hz, own, -, -⟩ := inL p k hL
    obtain ⟨-, -, h3, -, -⟩ := hr.entries e he
    obtain ⟨x, hx, h4, h5⟩ := (h3 c hc').2 k (List.of_mem_zip hz).2
    have hk : k ∈ r.chosen := by rw [← sndL]; exact List.mem_map_of_mem (f := Prod.snd) hL
    obtain ⟨y, hy, h6, -, h7⟩ := hr.taken k hk
    have := slot_unique hr.listed hx hy (h4.trans h6.symm)
    subst this
    obtain ⟨m, h8, h9, h10⟩ := hr.graded x hx h7 id
    subst h4
    exact ⟨m, h8, h9, e.string, c.position, own, by rw [h10]; exact h5⟩
  have full : ∀ p k, (p, k) ∈ L → ∀ string pos q, ownsPlace s.bank string pos p → ownsPlace s.bank string pos q → ∃ k', (q, k') ∈ L := by
    intro p k hL string pos q hp hq
    obtain ⟨e, he, c, hc', hz, own, -, -⟩ := inL p k hL
    obtain ⟨rfl, rfl⟩ := hp.unique hb own
    have hlen := (((hr.entries e he).2.2.1) c hc').1
    obtain ⟨n, hn', hq'⟩ := List.getElem_of_mem hq.2.2
    refine ⟨c.slots[n]'(by omega), mem_pairsOf.2 ⟨e, he, c, hc', ?_⟩⟩
    rw [List.mem_iff_getElem]
    refine ⟨n, by rw [List.length_zip]; omega, ?_⟩
    rw [List.getElem_zip, hq']
  refine ⟨?_, ?_, ?_, ?_, ?_, ?_, ?_, ?_⟩
  · intro p q k hp hq
    rcases (st p k).1 hp with ⟨f1, g1⟩ | L1 <;> rcases (st q k).1 hq with ⟨f2, g2⟩ | L2
    · exact h.once p q k g1 g2
    · exfalso
      obtain ⟨j, m, h1, h2, h3⟩ := h.fixed p f1
      rw [g1] at h1; cases h1
      obtain ⟨m', h4, h5, -⟩ := graded q k L2
      rw [h2] at h4; cases h4
      rw [h5] at h3; exact h3
    · exfalso
      obtain ⟨j, m, h1, h2, h3⟩ := h.fixed q f2
      rw [g2] at h1; cases h1
      obtain ⟨m', h4, h5, -⟩ := graded p k L1
      rw [h2] at h4; cases h4
      rw [h5] at h3; exact h3
    · have := List.inj_on_of_nodup_map (f := Prod.snd) (by rw [sndL]; exact hr.once) L1 L2 rfl
      cases this; rfl
  · rw [bk]
    rintro p (hp | hp)
    · obtain ⟨k, hk⟩ := Option.ne_none_iff_exists'.1 hp
      rcases (st p k).1 hk with ⟨f1, -⟩ | L1
      · exact h.owned p (.inr f1)
      · obtain ⟨e, -, c, -, -, own, -⟩ := inL p k L1
        exact ⟨_, _, own⟩
    · rw [fx] at hp; exact h.owned p (.inr hp)
  · rw [bk]
    intro string pos p q hp hq
    obtain ⟨g1, g2⟩ := h.together string pos p q hp hq
    rw [fx, fx]
    refine ⟨g1, ?_⟩
    have dir : ∀ p q, ownsPlace s.bank string pos p → ownsPlace s.bank string pos q → t.places[p].slot.isSome = true → t.places[q].slot.isSome = true := by
      intro p q hp hq hs
      obtain ⟨g1, g2⟩ := h.together string pos p q hp hq
      obtain ⟨k, hk⟩ := Option.isSome_iff_exists.1 hs
      rcases (st p k).1 hk with ⟨f1, e1⟩ | L1
      · have : s.places[q].slot.isSome = true := by rw [← g2, e1]; rfl
        obtain ⟨k', hk'⟩ := Option.isSome_iff_exists.1 this
        rw [(st q k').2 (.inl ⟨g1 ▸ f1, hk'⟩)]; rfl
      · obtain ⟨k', hk'⟩ := full p k L1 string pos q hp hq
        rw [(st q k').2 (.inr hk')]; rfl
    rw [Bool.eq_iff_iff]
    exact ⟨dir p q hp hq, dir q p hq hp⟩
  · rw [sl]
    intro p hp
    rw [fx] at hp
    obtain ⟨k, m, h1, h2, h3⟩ := h.fixed p hp
    exact ⟨k, m, (st p k).2 (.inl ⟨hp, h1⟩), h2, h3⟩
  · rw [bk, sl]
    intro string pos p k ho hs hf _
    rw [fx] at hf
    rcases (st p k).1 hs with ⟨f1, -⟩ | L1
    · rw [hf] at f1; cases f1
    · obtain ⟨m, h1, h2, string', pos', own, h3⟩ := graded p k L1
      obtain ⟨rfl, rfl⟩ := ho.unique hb own
      exact ⟨m, h1, h2, h3⟩
  · rw [sl]
    intro k m g d h1 h2
    obtain ⟨p, h3, h4⟩ := h.installed k m g d h1 h2
    exact ⟨p, (st p k).2 (.inl ⟨h4, h3⟩), by rw [fx]; exact h4⟩
  · intro p
    rw [al, fx, sl, h.alarm p]
    refine and_congr_right fun hf => exists_congr fun k => exists_congr fun m => and_congr_left fun _ => ?_
    rw [st]
    constructor
    · exact fun e => .inl ⟨hf, e⟩
    · rintro (⟨-, e⟩ | L1)
      · exact e
      · obtain ⟨-, -, -, -, -, -, hf', -⟩ := inL p k L1
        rw [hf] at hf'; cases hf'
  · rw [bk]
    intro i hi
    rcases c2 i hi with ⟨e, he, rfl, hp⟩ | ⟨hne, hpl⟩
    · obtain ⟨h1, -, h3, h4, -⟩ := hr.entries e he
      refine ⟨h1, fun pos p ho => ?_⟩
      by_cases hf : s.places[p].fixed = true
      · obtain ⟨k, m, h5, -⟩ := h.fixed p hf
        rw [(st p k).2 (.inl ⟨hf, h5⟩)]; nofun
      · have hop : pos ∈ openPositions s e.string := List.mem_filter.2 ⟨List.mem_range.2 ho.2.1, by
          have : positionFixed s e.string pos = false := by
            by_contra hpf
            exact hf ((positionFixed_iff _ _ _).1 (by simpa using hpf) p ho.2.2)
          rw [this]; rfl⟩
        rw [← h4 hp] at hop
        obtain ⟨c, hc', rfl⟩ := List.mem_map.1 hop
        obtain ⟨h5, -⟩ := h3 c hc'
        obtain ⟨n, hn', hq'⟩ := List.getElem_of_mem ho.2.2
        have hL : (p, c.slots[n]'(by omega)) ∈ L := by
          refine mem_pairsOf.2 ⟨e, he, c, hc', ?_⟩
          rw [List.mem_iff_getElem]
          refine ⟨n, by rw [List.length_zip]; omega, ?_⟩
          rw [List.getElem_zip, hq']
        rw [(st p _).2 (.inr hL)]; nofun
    · exfalso
      have : s2.records = s.records := by
        rw [e2, (assign_work L s1).2]; exact a2
      rw [this] at hpl
      obtain ⟨he, -⟩ := h.planned i hpl
      obtain ⟨e, he', e'⟩ := cov i he
      exact hne e he' e'

/-! ## Restoring the install image -/

/-- Restoring a slot reaches slots and places alone. -/
theorem restoreSlot_work (s : State) (x : PlaceNo × InstalledSlot) :
    restoreSlot s x = { s with slots := (restoreSlot s x).slots, places := (restoreSlot s x).places } := rfl

/-- Restoring slots reaches slots and places alone. -/
theorem restoreFold_work (l : List (PlaceNo × InstalledSlot)) (s : State) :
    l.foldl restoreSlot s = { s with slots := (l.foldl restoreSlot s).slots, places := (l.foldl restoreSlot s).places } := by
  induction l generalizing s with
  | nil => rfl
  | cons x l ih => rw [List.foldl_cons, ih]; rfl

/-- What is restored into a place. -/
def restoredPlace (v : InstalledSlot) : Place := { slot := some v.slot, fixed := true, alarm := (restoredRecord v).isQuarantined }

/-- The places and slots after restoring one slot (R175). -/
theorem restoreSlot_facts (s : State) (x : PlaceNo × InstalledSlot) :
    (∀ p : PlaceNo, (restoreSlot s x).places[p] = if x.1 = p then restoredPlace x.2 else s.places[p]) ∧
    (∀ i : SlotNo, (restoreSlot s x).slots[i] = if x.2.slot = i then some (restoredRecord x.2) else s.slots[i]) := by
  constructor
  · intro p
    have h := updatePlace_place x.1 p (fun _ => restoredPlace x.2) (setSlot x.2.slot (some (restoredRecord x.2)) s)
    exact h
  · intro i
    exact setSlot_slot _ _ _ _

/-- The places and slots after restoring distinct slots in distinct places (R175). -/
theorem restoreFold_facts (l : List (PlaceNo × InstalledSlot)) (hp : (l.map Prod.fst).Nodup) (hs : (l.map fun x => x.2.slot).Nodup) (s : State) :
    (∀ (p : PlaceNo), (p ∉ l.map Prod.fst ∧ (l.foldl restoreSlot s).places[p] = s.places[p]) ∨
      ∃ v, (p, v) ∈ l ∧ (l.foldl restoreSlot s).places[p] = restoredPlace v) ∧
    (∀ (i : SlotNo), ((i ∉ l.map fun x => x.2.slot) ∧ (l.foldl restoreSlot s).slots[i] = s.slots[i]) ∨
      ∃ p v, (p, v) ∈ l ∧ v.slot = i ∧ (l.foldl restoreSlot s).slots[i] = some (restoredRecord v)) := by
  induction l generalizing s with
  | nil => exact ⟨fun _ => .inl ⟨nofun, rfl⟩, fun _ => .inl ⟨nofun, rfl⟩⟩
  | cons x l ih =>
    rw [List.map_cons, List.nodup_cons] at hp hs
    rw [List.foldl_cons]
    obtain ⟨h1, h2⟩ := ih hp.2 hs.2 (restoreSlot s x)
    obtain ⟨f1, f2⟩ := restoreSlot_facts s x
    refine ⟨fun p => ?_, fun i => ?_⟩
    · rcases h1 p with ⟨a, b⟩ | ⟨v, a, b⟩
      · rw [b, f1]
        by_cases hx : x.1 = p
        · subst hx; exact .inr ⟨x.2, List.mem_cons_self, by rw [if_pos rfl]⟩
        · rw [if_neg hx]; refine .inl ⟨?_, rfl⟩
          rw [List.map_cons, List.mem_cons]
          rintro (e | e)
          · exact hx e.symm
          · exact a e
      · exact .inr ⟨v, List.mem_cons_of_mem _ a, b⟩
    · rcases h2 i with ⟨a, b⟩ | ⟨p, v, a, e, b⟩
      · rw [b, f2]
        by_cases hx : x.2.slot = i
        · exact .inr ⟨x.1, x.2, List.mem_cons_self, hx, by rw [if_pos hx]⟩
        · rw [if_neg hx]; refine .inl ⟨?_, rfl⟩
          rw [List.map_cons, List.mem_cons]
          rintro (e | e)
          · exact hx e.symm
          · exact a e
      · exact .inr ⟨p, v, List.mem_cons_of_mem _ a, e, b⟩

/-- The places and slots of install records. -/
def restorePairs (b : BankMap) (rs : List InstallRecord) : List (PlaceNo × InstalledSlot) :=
  rs.flatMap fun r => (b[r.string].placesOf r.position).zip r.slots

/-- Restoring install records restores their slots one after another (R175). -/
theorem restoreRecords_eq (rs : List InstallRecord) (s : State) :
    rs.foldl restoreRecord s = (restorePairs s.bank rs).foldl restoreSlot s := by
  unfold restorePairs
  induction rs generalizing s with
  | nil => rfl
  | cons r rs ih =>
    rw [List.foldl_cons, ih, List.flatMap_cons, List.foldl_append]
    have : (restoreRecord s r).bank = s.bank := by
      unfold restoreRecord; rw [restoreFold_work]
    rw [this]; rfl

/-- A restored slot is INSTALLED or QUARANTINED as it was saved (R15). -/
theorem restoredState_fixed {v : InstalledSlot} (h : v.state.standsFixed) : (restoredRecord v).state.standsFixed := by
  unfold restoredRecord restoredState
  dsimp only
  split
  · trivial
  · exact h

/-- The places and slots of a state restored from an install image that fits its bank map. -/
theorem PlacesBut.restored {c : InstallImage} (hc : InstallSound c) {s t : State} (hb : BankSound s.bank) (e : c.bank = s.bank)
    (hp0 : ∀ p : PlaceNo, s.places[p] = Place.empty) (hs0 : ∀ i : SlotNo, s.slots[i] = none)
    (hbt : t.bank = s.bank) (hpt : t.places = (c.records.foldl restoreRecord s).places) (hst : t.slots = (c.records.foldl restoreRecord s).slots)
    (hpl : ∀ i : StringNo, t.records[i].state = .planned → t.bank[i].enabled = true ∧
      ∀ pos p, ownsPlace t.bank i pos p → t.places[p].fixed = true) : PlacesAll t := by
  let L := restorePairs s.bank c.records
  have info : ∀ p v, (p, v) ∈ L → ∃ r ∈ c.records, v ∈ r.slots ∧ (p, v) ∈ (s.bank[r.string].placesOf r.position).zip r.slots ∧
      ownsPlace s.bank r.string r.position p ∧ v.state.standsFixed := by
    intro p v hL
    obtain ⟨r, hr, hz⟩ := List.mem_flatMap.1 hL
    obtain ⟨h1, h2, h3⟩ := hc.whole r hr
    rw [e] at h1 h2
    have := List.of_mem_zip hz
    exact ⟨r, hr, this.2, hz, ⟨h1, h2, this.1⟩, hc.states r hr v this.2⟩
  have n1 : (L.map Prod.fst).Nodup := by
    have e1 : L.map Prod.fst = c.records.flatMap fun r => s.bank[r.string].placesOf r.position := by
      show (c.records.flatMap _).map Prod.fst = _
      rw [List.map_flatMap]
      refine List.flatMap_congr fun r hr => ?_
      exact List.map_fst_zip (by rw [(hc.whole r hr).2.2, e])
    rw [e1, List.nodup_flatMap]
    refine ⟨fun r hr => ?_, hc.positions.imp_of_mem fun {x y} hx hy hxy => ?_⟩
    · obtain ⟨h1, h2, -⟩ := hc.whole r hr
      rw [e] at h1 h2
      exact (placesOf_full _ (hb.within _ h1) h2).2
    · intro p hp hq
      obtain ⟨h1, h2, -⟩ := hc.whole x hx
      obtain ⟨h3, h4, -⟩ := hc.whole y hy
      rw [e] at h1 h2 h3 h4
      exact hxy (ownsPlace.unique hb ⟨h1, h2, hp⟩ ⟨h3, h4, hq⟩)
  have n2 : (L.map fun x => x.2.slot).Nodup := by
    have e1 : (L.map fun x => x.2.slot) = (c.records.flatMap (·.slots)).map (·.slot) := by
      rw [show (L.map fun x => x.2.slot) = (L.map Prod.snd).map (·.slot) by rw [List.map_map]; rfl]
      congr 1
      show (c.records.flatMap _).map Prod.snd = _
      rw [List.map_flatMap]
      refine List.flatMap_congr fun r hr => ?_
      exact List.map_snd_zip (by rw [(hc.whole r hr).2.2, e])
    rw [e1]; exact hc.slots
  obtain ⟨f1, f2⟩ := restoreFold_facts L n1 n2 s
  have hpl' : ∀ p : PlaceNo, (p ∉ L.map Prod.fst ∧ t.places[p] = Place.empty) ∨ ∃ v, (p, v) ∈ L ∧ t.places[p] = restoredPlace v := by
    intro p
    rw [hpt, restoreRecords_eq]
    rcases f1 p with ⟨a, b⟩ | h
    · exact .inl ⟨a, b.trans (hp0 p)⟩
    · exact .inr h
  have hsl' : ∀ p v, (p, v) ∈ L → t.places[p] = restoredPlace v ∧ t.slots[v.slot] = some (restoredRecord v) := by
    intro p v hL
    constructor
    · rcases hpl' p with ⟨a, -⟩ | ⟨v', a, b⟩
      · exact absurd (List.mem_map_of_mem (f := Prod.fst) hL) a
      · have := List.inj_on_of_nodup_map n1 a hL rfl
        cases this; exact b
    · rw [hst, restoreRecords_eq]
      rcases f2 v.slot with ⟨a, -⟩ | ⟨p', v', a, e', b⟩
      · exact absurd (List.mem_map_of_mem (f := fun x : PlaceNo × InstalledSlot => x.2.slot) hL) a
      · have := List.inj_on_of_nodup_map n2 a hL e'
        cases this; exact b
  have occ : ∀ p : PlaceNo, t.places[p].fixed = true ∨ t.places[p].slot ≠ none → ∃ v, (p, v) ∈ L := by
    intro p hp
    rcases hpl' p with ⟨-, b⟩ | ⟨v, a, -⟩
    · rw [b] at hp; simp [Place.empty] at hp
    · exact ⟨v, a⟩
  have slotOcc : ∀ (i : SlotNo) m, t.slots[i] = some m → ∃ p v, (p, v) ∈ L ∧ v.slot = i ∧ m = restoredRecord v := by
    intro i m hm
    rw [hst, restoreRecords_eq] at hm
    rcases f2 i with ⟨-, b⟩ | ⟨p, v, a, e', b⟩
    · rw [show (List.foldl restoreSlot s (restorePairs s.bank c.records)).slots[i] = s.slots[i] from b, hs0] at hm; cases hm
    · rw [show (List.foldl restoreSlot s (restorePairs s.bank c.records)).slots[i] = _ from b] at hm; cases hm
      exact ⟨p, v, a, e', rfl⟩
  have full : ∀ p v, (p, v) ∈ L → ∀ string pos q, ownsPlace s.bank string pos p → ownsPlace s.bank string pos q → ∃ w, (q, w) ∈ L := by
    intro p v hL string pos q hp hq
    obtain ⟨r, hr, -, -, own, -⟩ := info p v hL
    obtain ⟨rfl, rfl⟩ := hp.unique hb own
    have hlen := (hc.whole r hr).2.2
    rw [e] at hlen
    obtain ⟨n, hn', hq'⟩ := List.getElem_of_mem hq.2.2
    refine ⟨r.slots[n]'(by omega), List.mem_flatMap.2 ⟨r, hr, ?_⟩⟩
    rw [List.mem_iff_getElem]
    refine ⟨n, by rw [List.length_zip]; omega, ?_⟩
    rw [List.getElem_zip, hq']
  refine ⟨?_, ?_, ?_, ?_, ?_, ?_, ?_, ?_⟩
  · intro p q i hp hq
    obtain ⟨v, hv⟩ := occ p (.inr (by rw [hp]; nofun))
    obtain ⟨w, hw⟩ := occ q (.inr (by rw [hq]; nofun))
    rw [(hsl' p v hv).1] at hp
    rw [(hsl' q w hw).1] at hq
    have := List.inj_on_of_nodup_map n2 hv hw (by injection hp with a; injection hq with b; exact a.trans b.symm)
    cases this; rfl
  · rw [hbt]
    intro p hp
    obtain ⟨v, hv⟩ := occ p hp.symm
    obtain ⟨r, -, -, -, own, -⟩ := info p v hv
    exact ⟨_, _, own⟩
  · rw [hbt]
    intro string pos p q hp hq
    have both : ∀ x : PlaceNo, (∃ v, (x, v) ∈ L) → t.places[x].fixed = true ∧ t.places[x].slot.isSome = true := by
      rintro x ⟨v, hv⟩
      rw [(hsl' x v hv).1]; exact ⟨rfl, rfl⟩
    have neither : ∀ x : PlaceNo, ¬ (∃ v, (x, v) ∈ L) → t.places[x].fixed = false ∧ t.places[x].slot.isSome = false := by
      intro x hx
      rcases hpl' x with ⟨-, b⟩ | ⟨v, a, -⟩
      · rw [b]; exact ⟨rfl, rfl⟩
      · exact absurd ⟨v, a⟩ hx
    by_cases hx : ∃ v, (p, v) ∈ L
    · obtain ⟨v, hv⟩ := hx
      rw [(both p ⟨v, hv⟩).1, (both p ⟨v, hv⟩).2, (both q (full p v hv string pos q hp hq)).1, (both q (full p v hv string pos q hp hq)).2]
      exact ⟨rfl, rfl⟩
    · have hy : ¬ ∃ v, (q, v) ∈ L := fun ⟨v, hv⟩ => hx (full q v hv string pos p hq hp)
      rw [(neither p hx).1, (neither p hx).2, (neither q hy).1, (neither q hy).2]
      exact ⟨rfl, rfl⟩
  · intro p hp
    obtain ⟨v, hv⟩ := occ p (.inl hp)
    obtain ⟨h1, h2⟩ := hsl' p v hv
    obtain ⟨-, -, -, -, -, h3⟩ := info p v hv
    exact ⟨v.slot, restoredRecord v, by rw [h1]; rfl, h2, restoredState_fixed h3⟩
  · intro string pos p i _ hs hf
    obtain ⟨v, hv⟩ := occ p (.inr (by rw [hs]; nofun))
    rw [(hsl' p v hv).1] at hf; cases hf
  · intro i m g d h1 h2
    obtain ⟨p, v, hv, rfl, rfl⟩ := slotOcc i m h1
    exact ⟨p, by rw [(hsl' p v hv).1]; exact ⟨rfl, rfl⟩⟩
  · intro p
    by_cases hx : ∃ v, (p, v) ∈ L
    · obtain ⟨v, hv⟩ := hx
      obtain ⟨h1, h2⟩ := hsl' p v hv
      rw [h1]
      constructor
      · exact fun h => ⟨rfl, v.slot, _, rfl, h2, h⟩
      · rintro ⟨-, i, m, h3, h4, h5⟩
        cases h3
        rw [h2] at h4; cases h4
        exact h5
    · rcases hpl' p with ⟨-, b⟩ | ⟨v, a, -⟩
      · rw [b]; exact ⟨nofun, nofun⟩
      · exact absurd ⟨v, a⟩ hx
  · intro i hi
    obtain ⟨h1, h2⟩ := hpl i hi
    refine ⟨h1, fun pos p ho => ?_⟩
    obtain ⟨v, hv⟩ := occ p (.inl (h2 pos p ho))
    rw [(hsl' p v hv).1]; nofun

/-- Empty places and VACANT slots. -/
theorem PlacesBut.vacant {t : State} (hp : ∀ p : PlaceNo, t.places[p] = Place.empty) (hs : ∀ i : SlotNo, t.slots[i] = none)
    (hr : ∀ i : StringNo, t.records[i].state = .planned → t.bank[i].enabled = true ∧
      ∀ pos p, ownsPlace t.bank i pos p → t.places[p].fixed = true) : PlacesAll t := by
  have hps : ∀ p : PlaceNo, t.places[p].slot = none := fun p => by rw [hp]; rfl
  have hpf : ∀ p : PlaceNo, t.places[p].fixed = false := fun p => by rw [hp]; rfl
  have hpa : ∀ p : PlaceNo, t.places[p].alarm = false := fun p => by rw [hp]; rfl
  have ff : ¬ (false = true) := Bool.false_ne_true
  refine ⟨?_, ?_, ?_, ?_, ?_, ?_, ?_, ?_⟩
  · intro p q i h _
    rw [hps] at h; cases h
  · intro p h
    rw [hps, hpf] at h
    exact absurd h (by simp)
  · intro string pos p q _ _
    rw [hps, hps, hpf, hpf]; exact ⟨rfl, rfl⟩
  · intro p h
    rw [hpf] at h; cases h
  · intro string pos p i _ h
    rw [hps] at h; cases h
  · intro i m g d h
    rw [hs] at h; cases h
  · intro p
    rw [hpa, hpf]
    exact ⟨fun h => absurd h ff, fun h => absurd h.1 ff⟩
  · intro i hi
    obtain ⟨h1, h2⟩ := hr i hi
    refine ⟨h1, fun pos p ho => ?_⟩
    have := h2 pos p ho
    rw [hpf] at this; cases this

/-- A string is set PLANNED from the fixed positions only when it is wholly fixed (R105). -/
theorem recordsFromFixed_fixed (s : State) (i : StringNo) (hi : (recordsFromFixed s).records[i].state = .planned) :
    (recordsFromFixed s).bank[i].enabled = true ∧ ∀ pos p, ownsPlace (recordsFromFixed s).bank i pos p → (recordsFromFixed s).places[p].fixed = true := by
  have : (recordsFromFixed s).records[i] = if whollyFixed s i then { state := .planned, reference := fixedReference s i, review := 0 }
      else StringRecord.initial := by simp [recordsFromFixed]
  rw [this] at hi
  split at hi
  · rename_i hw
    exact (whollyFixed_iff s i).1 hw
  · cases hi

/-- Stage 3 of start-up leaves places, slots and records that agree (R174, R175, R105). -/
theorem slotsStage_all {s : State} (hb : BankSound s.bank) (hi : ∀ c, s.store.install = some c → InstallSound c) :
    PlacesAll (slotsStage s) := by
  have hr := recordsFromFixed_fixed (restoreInstall { s with slots := Vector.replicate 64 none, places := Vector.replicate 64 Place.empty })
  unfold slotsStage
  let s0 : State := { s with slots := Vector.replicate 64 none, places := Vector.replicate 64 Place.empty }
  have p0 : ∀ p : PlaceNo, s0.places[p] = Place.empty := fun p => by simp [s0]
  have q0 : ∀ i : SlotNo, s0.slots[i] = none := fun i => by simp [s0]
  change PlacesAll (recordsFromFixed (restoreInstall s0))
  change ∀ i : StringNo, (recordsFromFixed (restoreInstall s0)).records[i].state = .planned → (recordsFromFixed (restoreInstall s0)).bank[i].enabled = true ∧ ∀ pos p, ownsPlace (recordsFromFixed (restoreInstall s0)).bank i pos p → (recordsFromFixed (restoreInstall s0)).places[p].fixed = true at hr
  have hcase : (restoreInstall s0).places = s0.places ∧ (restoreInstall s0).slots = s0.slots ∨
      ∃ c, s.store.install = some c ∧ c.bank = s.bank ∧ (restoreInstall s0).bank = s0.bank ∧
        (restoreInstall s0).places = (c.records.foldl restoreRecord s0).places ∧ (restoreInstall s0).slots = (c.records.foldl restoreRecord s0).slots := by
    unfold restoreInstall
    split
    · exact .inl ⟨rfl, rfl⟩
    · rename_i c hc
      split
      · rename_i e
        refine .inr ⟨c, hc, e, ?_, rfl, rfl⟩
        rw [restoreRecords_eq, restoreFold_work]
      · exact .inl ⟨rfl, rfl⟩
  rcases hcase with ⟨h1, h2⟩ | ⟨c, hc, e, h1, h2, h3⟩
  · refine PlacesBut.vacant (fun p => ?_) (fun i => ?_) hr
    · show (restoreInstall s0).places[p] = _; rw [h1]; exact p0 p
    · show (restoreInstall s0).slots[i] = _; rw [h2]; exact q0 i
  · exact PlacesBut.restored (hi c hc) (s := s0) hb e p0 q0 h1 h2 h3 hr

end Sys2Proof.Machine
end

