-- ==== Sys2Proof/Tests/Slice0.lean ====
section
/-! SUPPORT. Tests of the model: the well-formedness smoke, one or two small steps for each command with values from the
manual's worked examples, and for each statement with hypotheses a state and operands that meet them. -/

namespace Sys2Proof.Tests

-- One theorem at a time: kernel evaluations started together would each hold a thread.
set_option Elab.async false

open Sys2Proof.Machine

/-! ## Well-formedness: an ill-formed term for each check -/

/-- UNKNOWN names a directive (STATUS, 2). -/
theorem test_wf_unknown_code : (Instr.unknown 0 [2]).wellFormed = false := by decide

/-- A payload of 241 bytes fits no frame. -/
theorem test_wf_unknown_long : (Instr.unknown 0 (List.replicate 241 99)).wellFormed = false := by decide +kernel

/-- A directive of 241 bytes with its code fits no frame. -/
theorem test_wf_directive_long : (Instr.admitModule 0 (List.replicate 240 0)).wellFormed = false := by decide +kernel

/-- 19 µs is no break. -/
theorem test_wf_break_short : (Instr.lineBreak .space 100 119 0).wellFormed = false := by decide

/-- 20 µs is a break, not a shorter departure. -/
theorem test_wf_departure_long : (Instr.departureFromIdle .mark 100 120 0).wellFormed = false := by decide

/-- A departure does not end before it starts. -/
theorem test_wf_departure_backward : (Instr.departureFromIdle .mark 100 99 0).wellFormed = false := by decide

/-- There is no node 0. -/
theorem test_wf_node_zero : (Instr.nodeSilence 0 1).wellFormed = false := by decide

/-- There is no node 17. -/
theorem test_wf_node_high : (Instr.nodeSilence 17 1).wellFormed = false := by decide

/-- Start-up takes at most 40 ms. -/
theorem test_wf_startUp_long : (Instr.startUp 0 41).wellFormed = false := by decide

/-- The events beside those limits are well-formed. -/
theorem test_wf_accepts :
    (Instr.unknown 0 []).wellFormed = true ∧ (Instr.unknown 0 [10]).wellFormed = true ∧
      (Instr.lineBreak .space 100 120 0).wellFormed = true ∧
      (Instr.departureFromIdle .mark 100 119 0).wellFormed = true ∧ (Instr.nodeSilence 16 1).wellFormed = true ∧
      (Instr.startUp 0 40).wellFormed = true ∧ (Instr.admitModule 0 (List.replicate 239 0)).wellFormed = true := by
  decide +kernel

/-- The 33 codes are those with a parameter length. -/
theorem test_directive_codes :
    (∀ c < 256, directiveCodes.contains c = (parameterLength c).isSome) ∧ directiveCodes.length = 33 := by
  decide +kernel

/-- No row of the table has bits, so a word spells no command. -/
theorem test_decode_none : decodeTableWord 8 1 = none ∧ decodeTableWord 16 0 = none := by decide

/-! ## Small states -/

/-- An ACTIVE engine with nothing admitted, written or queued. -/
def active : State := { State.reset with engine := .active }

/-- A state with one directive frame waiting. -/
def sent (code : Nat) (params : List Byte) (s : State) : State :=
  { s with directiveQueue := [{ tag := 9, payload := BitVec.ofNat 8 code :: params }] }

/-- The same state once that frame is taken. -/
def taken (s : State) : State := { s with directiveQueue := [], fieldMask := none, purgeEnable := false }

/-- The state a command gives. -/
def after (c : Instr) (s : State) : State :=
  match exec c s with
  | .next t => t
  | _ => s

/-- The outcome of the answer that the up-port is sending. -/
def outcomeSent (s : State) : Option AnswerOutcome :=
  match s.upTx with
  | some (.answer a _) => some a.outcome
  | _ => none

/-- The data of the answer that the up-port is sending. -/
def dataSent (s : State) : List Byte :=
  match s.upTx with
  | some (.answer a _) => a.data
  | _ => []

/-- The report that the up-port is sending. -/
def reportSent (s : State) : Option Report :=
  match s.upTx with
  | some (.report r _) => some r
  | _ => none

/-- The first bytes of the frame that the up-port is sending. -/
def headerSent (s : State) : List Byte :=
  match s.upTx with
  | some (.answer _ f) => f.take 3
  | some (.report _ f) => f.take 3
  | some (.forwarded f) => f.take 3
  | none => []

/-- The outcome of a directive with its frame waiting. -/
def outcome (c : Instr) (s : State) : Option AnswerOutcome :=
  (c.directive.map fun d => outcomeSent (after c (sent d.2.1 d.2.2 s))).getD none

/-- The state a directive gives with its frame waiting. -/
def told (c : Instr) (s : State) : State :=
  (c.directive.map fun d => after c (sent d.2.1 d.2.2 s)).getD s

/-- The profile of family 1 in the manual's worked sequences. -/
def profile : Profile :=
  { valid := true, fullMark := 41000, emptyMark := 30000, hardHigh := 43000, hardLow := 25000, restThreshold := 500,
    stepMinimum := 5000, stepInterval := 200, settleTime := 60, restWindow := 3600, maxGap := 2000,
    gapAllowance := 2, hardTemperature := 600 }

/-- The ACTIVE engine with that profile and slot map entry 0 naming slot 8. -/
def mapped : State :=
  { active with profiles := active.profiles.set 1 profile, slotMap := active.slotMap.set 0 (some 8) }

/-- A module of 12 cells and 7400 cAh in family 1. -/
def moduleOf (state : ModuleState) (grade cap : Nat) (rdc : Option Nat) : ModuleRecord :=
  { admittedRecord (List.replicate 16 7) 1 12 7400 with
    state := state
    grade := grade
    figures := { Figures.none with
      cap := some { value := cap, clipped := false, saturated := false }
      rdc := rdc.map fun v => { value := v, saturated := false } } }

/-- A string of the bank map. -/
def bankString (kind : StringKind) (first count : Nat) (mask : BitVec 16) (cap pair : Nat) : BankString :=
  { enabled := true, family := 1, kind := kind, first := first, count := count, gradeMask := mask,
    capTolerance := cap, pairTolerance := pair }

/-- The bank of the manual's worked planning run, with its GRADED slots 3 and 9 (grade 1) and 7 (grade 2). -/
def bank : State :=
  { mapped with
    bank := (mapped.bank.set 0 (bankString .paired 0 2 6 50 500)).set 1 (bankString .single 4 3 12 30 0)
    slots := ((mapped.slots.set 3 (some (moduleOf .graded 1 7500 (some 7040)))).set 9
      (some (moduleOf .graded 1 7380 (some 7300)))).set 7 (some (moduleOf .graded 2 7400 (some 7900))) }

/-- The bank with slots 3 and 9 in position 0 of string 0, PLANNED. -/
def planned : State :=
  { bank with
    places := (bank.places.set 0 { slot := some 3, fixed := false, alarm := false }).set 1
      { slot := some 9, fixed := false, alarm := false }
    records := bank.records.set 0 { state := .planned, reference := some 14880, review := 0 } }

/-- A sample frame of node 1 with one channel entry. -/
def sampleFrame (tick channel voltage : Nat) (current temperature : Int) : Frame :=
  buildFrame kindSample 1 0 (toBytes 2 tick ++ [1] ++ toBytes 1 channel ++ [1] ++ toBytes 3 voltage ++
    intBytes 3 current ++ intBytes 2 temperature)

/-- A planning run at its start. -/
def runOf (mode : RunMode) (s : State) : PlanningRun := { newRun s 0 with mode := mode }

/-! ## Engine and ports -/

/-- POWER_ON drops what the ports held and the run (R149, R173). -/
theorem test_powerOn :
    let t := after .powerOn { active with upQueue := [[1]], run := some (runOf .running active), storeWork := some (.certify 0) }
    t.engine = .starting ∧ t.upQueue = [] ∧ t.run = none ∧ t.storeWork = none := by
  decide +kernel

/-- POWER_ON stops a level being repeated on DN_TX, and the fourth break of the pattern spares one (R149, R148). -/
theorem test_powerOn_level :
    let l : LineLevel := { pol := .space, duration := 20, idle := 0 }
    let s : State := { active with dnTx := some (.level l), patternCount := 3, lastBreakEnd := 1225 }
    (after .powerOn s).dnTx = none ∧ (after (.lineBreak .mark 2000 2040 775) s).dnTx = some (.level l) ∧
      (after (.lineBreak .mark 2000 2040 775) s).engine = .starting := by
  decide +kernel

/-- RESET_N low: STARTING, and nothing is received until it returns high (R173). -/
theorem test_resetLine_held :
    let t := after .resetLineHeldLow active
    t.engine = .starting ∧ (after (.upPortArrival [1, 2]) t).counters = t.counters ∧ (after .resetLine t).restartCause = .resetLine := by
  decide +kernel

/-- Straps 10110 give address 22, and straps 0 the address 30 with ADDRESS DEFAULTED (R146, worked table). -/
theorem test_startUp_address :
    (after (.startUp 0b10110 5) State.reset).engineAddress = 22 ∧
      (after (.startUp 0b10110 5) State.reset).addressDefaulted = false ∧
      (after (.startUp 0 5) State.reset).engineAddress = 30 ∧ (after (.startUp 0 5) State.reset).addressDefaulted = true := by
  decide +kernel

/-- The START report leaves at once with tag 0: POWER_ON, image 0 valid, install image invalid (R174, R159). -/
theorem test_startUp_report :
    reportSent (after (.startUp 0b10110 5) State.reset) = some (.start .powerOn 1 .invalid) ∧
      headerSent (after (.startUp 0b10110 5) State.reset) = [4, 22, 0] := by
  decide +kernel

/-- A third break 1000 µs after the second counts, and 1001 µs after it starts again (R147). -/
theorem test_lineBreak_late :
    let s : State := { active with patternCount := 2, lastBreakEnd := 530 }
    (after (.lineBreak .space 1530 1560 1000) s).patternCount = 3 ∧
      (after (.lineBreak .space 1531 1560 1001) s).patternCount = 1 := by
  decide +kernel

/-- The fourth break triggers the link reset and is still repeated (R147, R148). -/
theorem test_lineBreak_completes :
    let t := after (.lineBreak .mark 2000 2040 775) { active with patternCount := 3, lastBreakEnd := 1225 }
    t.engine = .starting ∧ t.restartCause = .linkReset ∧
      t.dnTx = some (.level { pol := .mark, duration := 40, idle := 775 }) := by
  decide +kernel

/-- A sample with a bad check is counted, forwarded and not observed (R140, R141). -/
theorem test_downPortArrival_badCheck :
    let f := (sampleFrame 10000 0 493500 0 170).set 4 0
    let t := after (.downPortArrival 7 f) mapped
    t.counters.badCheck = 1 ∧ t.upTx = some (.forwarded f) ∧ t.nodes = mapped.nodes ∧ t.engineTime = 7 := by
  decide +kernel

/-- A good sample of node 1 is noted in its entry (R19). -/
theorem test_downPortArrival_observed :
    ((after (.downPortArrival 7 (sampleFrame 10000 0 493500 0 170)) mapped).nodes[0]) =
      { lastTick := some 10000, lastArrival := some 7, silent := false, sampleFrames := 1, malformed := 0 } := by
  decide +kernel

/-- A directive to address 30 joins the directive queue; one to 29 goes on down (R142). -/
theorem test_upPortArrival :
    (after (.upPortArrival (buildFrame 2 30 5 [1])) active).directiveQueue = [{ tag := 5, payload := [1] }] ∧
      (after (.upPortArrival (buildFrame 2 29 5 [1])) active).dnTx = some (.forwarded (buildFrame 2 29 5 [1])) := by
  decide +kernel

/-- After two forwarded frames a waiting report goes before the third (R144). -/
theorem test_endOfTransmission :
    let s : State := { active with
      upTx := some (.forwarded [1]), upQueue := [[2]], reports := [.store .save 3], arbiterCount := 2 }
    (after .endOfTransmission s).upQueue = [[2]] ∧ (after .endOfTransmission s).reports = [] ∧
      (after .endOfTransmission { s with arbiterCount := 1 }).upTx = some (.forwarded [2]) := by
  decide +kernel

/-- The DONE answer to BYPASS has left: the engine is in BYPASS (R176). -/
theorem test_endOfTransmission_bypass :
    (after .endOfTransmission { active with
      takingSuspended := true
      upTx := some (.answer { tag := 1, code := 6, outcome := .done, data := [] } []) }).engine = .bypass := by
  decide +kernel

/-- A level waiting to be repeated goes before a waiting frame (R143, R148). -/
theorem test_downPortTransmissionEnd :
    let l : LineLevel := { pol := .space, duration := 5, idle := 1 }
    (after .downPortTransmissionEnd { active with dnTx := some (.forwarded [1]), dnQueue := [[2]], repeats := [l] }).dnTx =
      some (.level l) := by
  decide +kernel

/-- A start symbol sets the pattern count to 0, and a break then cuts the frame and counts it (R147, R139). -/
theorem test_startSymbol :
    let s := after (.startSymbol .up) { active with patternCount := 2 }
    s.patternCount = 0 ∧ s.upReceiving = true ∧ (after (.lineBreak .space 5 25 0) s).counters.malformed = 1 ∧
      (after (.lineBreak .space 5 25 0) s).patternCount = 1 := by
  decide +kernel

/-- A departure of 19 µs is repeated and not judged (R148). -/
theorem test_departureFromIdle :
    let t := after (.departureFromIdle .space 5 24 3) { active with patternCount := 1 }
    t.patternCount = 1 ∧ t.dnTx = some (.level { pol := .space, duration := 19, idle := 3 }) := by
  decide +kernel

/-- A break at DN_RX cuts the frame being received there (R139). -/
theorem test_breakAtDnRx :
    (after .breakAtDnRx { active with dnReceiving := true }).counters.malformed = 1 ∧
      (after .breakAtDnRx active).counters.malformed = 0 := by
  decide +kernel

/-- A node is silent 5000 ms after its last frame and not before (R20). -/
theorem test_nodeSilence :
    let s : State := { mapped with nodes := mapped.nodes.set 0 { NodeEntry.initial with lastArrival := some 0 } }
    ((after (.nodeSilence 1 5000) s).nodes[0]).silent = true ∧ ((after (.nodeSilence 1 4999) s).nodes[0]).silent = false ∧
      reportSent (after (.nodeSilence 1 5000) s) = some (.silent 1 1) := by
  decide +kernel

/-! ## Samples (the manual's worked sequences) -/

/-- The first loaded sample opens a run at its own voltage and is a valid step (R34, R44). -/
theorem test_sample_opensRun :
    let prev : Sample :=
      { voltage := 492410, current := 0, temperature := 170, tick := 65520, phase := .rest, clipped := false }
    let s : State := { mapped with slots := mapped.slots.set 8 (some { moduleOf .testing 0 0 none with
      tracker := { Tracker.initial with previous := some prev, phase := .rest } }) }
    let x : ClampedSample := { voltage := 487910, current := -50000, temperature := 200, tick := 84, clipped := false }
    ((workSample 8 x s).slots[8]).map (fun m => (m.tracker.run, m.figures.steps, m.figures.tmax)) =
      some (some { accumulator := 0, minVoltage := 487910, gaps := 0, clipped := false },
        [{ value := 9000, saturated := false }], some 200) := by
  decide +kernel

/-- Accumulator −540 040 000 000 gives CAP 7500 and SOH 1013 of 7400 (worked sequence, spec/02). -/
theorem test_figures_capacity :
    (computeCap { accumulator := -540040000000, minVoltage := 356400, gaps := 1, clipped := false }).value = 7500 ∧
      computeSoh 7500 7400 = { value := 1013, saturated := false } := by
  decide +kernel

/-! ## Engine directives -/

/-- IDENTIFY carries the 12 bytes of the identity entry and the engine address (R157). -/
theorem test_identify :
    outcome (.identify 9 []) active = some .done ∧ (dataSent (told (.identify 9 []) active)).length = 13 := by
  decide +kernel

/-- STATUS shows the purge-enable mark as it stood before it, and the address (R164, R158). -/
theorem test_status :
    let d := dataSent (told (.status 9 []) { active with purgeEnable := true })
    d.length = 26 ∧ byteAt d 0 = 1 ∧ byteAt d 7 = 64 + 128 ∧ byteAt d 9 = 30 := by
  decide +kernel

/-- STATUS CLEAR of flag 0 and counter 1 leaves flag 2 and counter 0 (R165). -/
theorem test_statusClear :
    let t := told (.statusClear 9 [0, 1, 2])
      { active with causeFlags := 5, counters := { Counters.zero with badCheck := 3, malformed := 4 } }
    t.causeFlags = 4 ∧ t.counters.badCheck = 3 ∧ t.counters.malformed = 0 := by
  decide +kernel

/-- A newly enabled kind whose flag is set is caught up by ATTENTION; one that was enabled is not (R163). -/
theorem test_reportMask :
    let t := told (.reportMask 9 [0, 3]) { active with reportMask := 2, causeFlags := 3 }
    t.reportMask = 3 ∧ t.reports = [.attention 1] := by
  decide +kernel

/-- An accepted RESTART suspends the taking of directives (R151). -/
theorem test_restart :
    (told (.restart 9 []) active).takingSuspended = true ∧
      (told (.status 9 []) { active with takingSuspended := true }).upTx = none := by
  decide +kernel

/-- BYPASS is refused BUSY while the store is busy (R176). -/
theorem test_bypass :
    outcome (.bypass 9 []) { active with storeWork := some (.certify 0) } = some .busy ∧
      (told (.bypass 9 []) active).takingSuspended = true := by
  decide +kernel

/-- WAKE makes a bypassed engine ACTIVE, and SEEK is answered BYPASS there (R176, R152). -/
theorem test_wake :
    (told (.wake 9 []) { active with engine := .bypass }).engine = .active ∧ outcome (.wake 9 []) active = some .state ∧
      outcome (.seek 9 [0, 0]) { active with engine := .bypass } = some .bypass := by
  decide +kernel

/-- PURGE without the mark is NOT ENABLED; with it slots 3, 7 and 9 go and fixed ones stay (R158, R177). -/
theorem test_purge :
    let fixed := told (.fix 9 [0, 0]) planned
    let t := told (.purge 9 []) { fixed with upTx := none, purgeEnable := true }
    outcome (.purge 9 []) planned = some .notEnabled ∧ (told (.purgeEnable 9 []) planned).purgeEnable = true ∧
      t.slots[7] = none ∧ t.slots[3].isSome = true ∧ t.records[0].state = .opened := by
  decide +kernel

/-- Code 10 names no directive; an empty payload is MALFORMED with code 0 (R152). -/
theorem test_unknown :
    let s : State := { active with directiveQueue := [{ tag := 9, payload := [10, 1] }] }
    let e : State := { active with directiveQueue := [{ tag := 9, payload := [] }] }
    outcomeSent (after (.unknown 9 [10, 1]) s) = some .unknown ∧ outcomeSent (after (.unknown 9 []) e) = some .malformed ∧
      ((headerSent (after (.unknown 9 []) e)).getD 2 0) = 9 := by
  decide +kernel

/-! ## Table directives -/

/-- Table 9 has one entry (R153). -/
theorem test_seek :
    (told (.seek 9 [9, 0]) active).pointer = { table := 9, index := 0 } ∧ outcome (.seek 9 [9, 1]) active = some .range ∧
      outcome (.seek 9 [10, 0]) active = some .range := by
  decide +kernel

/-- READ 4 of slot records carries two of 84 bytes and wraps to entry 0 (worked example, spec/08). -/
theorem test_read :
    let t := told (.read 9 [4]) { active with pointer := { table := 6, index := 62 } }
    (dataSent t).length = 3 + 168 ∧ byteAt (dataSent t) 2 = 2 ∧ t.pointer = { table := 6, index := 0 } ∧
      outcome (.read 9 [9]) active = some .range := by
  decide +kernel

/-- NEXT reads one entry: slot map entry 0 names slot 8 (R154). -/
theorem test_next :
    dataSent (told (.next 9 []) mapped) = [0, 0, 1, 8] ∧ (told (.next 9 []) mapped).pointer.index = 1 := by
  decide +kernel

/-- A field mask holds for the next directive alone (R156). -/
theorem test_fieldMask :
    (told (.fieldMask 9 [0, 2]) active).fieldMask = some 2 ∧
      (told (.status 9 []) { active with fieldMask := some 2 }).fieldMask = none := by
  decide +kernel

/-- A WRITE to the slot records is READ ONLY, whatever its length (R155). -/
theorem test_write :
    outcome (.write 9 [1, 2, 3]) { active with pointer := { table := 6, index := 0 } } = some .readOnly := by
  decide +kernel

/-- Slot 8 is already named by entry 0; slot 9 is not (R17). -/
theorem test_slotMapWrite :
    let s : State := { mapped with pointer := { table := 0, index := 127 } }
    outcome (.slotMapWrite 9 [8]) s = some .duplicate ∧ outcome (.slotMapWrite 9 [64]) s = some .range ∧
      ((told (.slotMapWrite 9 [9]) s).slotMap[127]) = some 9 ∧ (told (.slotMapWrite 9 [9]) s).pointer.index = 0 := by
  decide +kernel

/-- The profile of the worked sequences is accepted; its marks swapped are out of ORDER (R23). -/
theorem test_profileWrite :
    let s : State := { active with pointer := { table := 1, index := 1 } }
    ((told (.profileWrite 9 (profileForm profile)) s).profiles[1]) = profile ∧
      outcome (.profileWrite 9 (profileForm { profile with emptyMark := 41000, fullMark := 30000 })) s = some .order := by
  decide +kernel

/-- A factor of 0 erases a point; 499 is out of RANGE (R54, R55). -/
theorem test_curveWrite :
    let s : State := { active with
      pointer := { table := 2, index := 8 }
      curves := active.curves.set 8 { written := true, temperature := 100, factor := 900 } }
    ((told (.curveWrite 9 [0, 0, 0, 0]) s).curves[8]) = CurvePoint.unwritten ∧
      outcome (.curveWrite 9 [0, 0, 1, 243]) s = some .range := by
  decide +kernel

/-- A row is written inside the window alone, with its thresholds clamped (R88, R70). -/
theorem test_gradeRowWrite :
    let row : List Byte := [1, 2, 15, 1, 4, 3, 0, 7, 208] ++ List.replicate 15 0
    let s : State := { active with pointer := { table := 3, index := 0 } }
    let w : State := { s with window := some { written := false, shadow := s.rows } }
    outcome (.gradeRowWrite 9 row) s = some .edit ∧
      ((told (.gradeRowWrite 9 row) w).rows[0]).criteria =
        [{ figure := .tmax, predicate := { less := true, equal := true, greater := false, unknown := false },
           strict := false, threshold := 1250 }] := by
  decide +kernel

/-- A PAIRED string at place 7 is MISALIGNED, one at 6 overlaps places 4 to 7, one at 8 fits (worked example, spec/05). -/
theorem test_bankMapWrite :
    let s : State := { bank with pointer := { table := 4, index := 2 } }
    let row : Byte → List Byte := fun first => [1, 0, 1, first, 2, 0, 6, 0, 50, 0, 0]
    outcome (.bankMapWrite 9 (row 7)) s = some .misaligned ∧ outcome (.bankMapWrite 9 (row 6)) s = some .overlap ∧
      outcome (.bankMapWrite 9 (row 8)) s = some .done := by
  decide +kernel

/-- A masked field keeps its value: the timeout stays 5000 (R172, R156). -/
theorem test_settingsWrite :
    let s : State := { active with pointer := { table := 9, index := 0 }, fieldMask := some 8 }
    (told (.settingsWrite 9 [8, 0, 0, 0, 0, 3, 0, 255]) s).settings.silenceTimeout = 5000 ∧
      (told (.settingsWrite 9 [8, 0, 0, 0, 0, 3, 0, 255]) s).settings.bootImage = 8 ∧
      outcome (.settingsWrite 9 [9, 0, 0, 0, 0, 3, 0, 255]) s = some .range := by
  decide +kernel

/-- EDIT OPEN is refused BUSY while a run exists (R87). -/
theorem test_editOpen :
    outcome (.editOpen 9 []) { active with run := some (runOf .held active) } = some .busy ∧
      (told (.editOpen 9 []) active).window = some { written := false, shadow := active.rows } := by
  decide +kernel

/-- EDIT CLOSE after a write sets the modified mark (R90); EDIT CANCEL takes the rows back (R91). -/
theorem test_editClose :
    let w : State := { active with
      rows := active.rows.set 0 { GradeRow.empty with code := 3 }
      window := some { written := true, shadow := active.rows } }
    (told (.editClose 9 []) w).modified = true ∧ ((told (.editClose 9 []) w).rows[0]).code = 3 ∧
      (told (.editCancel 9 []) w).modified = false ∧ ((told (.editCancel 9 []) w).rows[0]).code = 15 := by
  decide +kernel

/-! ## Slots, planning and fixing -/

/-- 18 cells of 43 000 fit 800 000 and 19 do not (R12). -/
theorem test_admit :
    let p : Byte → List Byte := fun cells => [8, 1, cells, 28, 232] ++ List.replicate 16 7
    outcome (.admitModule 9 (p 18)) mapped = some .done ∧ outcome (.admitModule 9 (p 19)) mapped = some .range := by
  decide +kernel

/-- WITHDRAW of slot 3 takes its partner out of the position and leaves the string INCOMPLETE (R10, R13). -/
theorem test_withdraw :
    let t := told (.withdraw 9 [3]) planned
    t.slots[3] = none ∧ t.places[1].slot = none ∧ t.records[0].state = .incomplete ∧ t.slots[9].isSome = true := by
  decide +kernel

/-- CLEAR FIGURES of RDC takes the step list with it, and an empty set is RANGE (R14). -/
theorem test_clearFigures :
    ((told (.clearFigures 9 [3, 4]) bank).slots[3]).map (·.figures.rdc) = some none ∧
      (told (.clearFigures 9 [3, 4]) bank).causeFlags = 3 ∧ outcome (.clearFigures 9 [3, 32]) bank = some .range := by
  decide +kernel

/-- The list of the worked run stands in the order 3, 7, 9 (R118). -/
theorem test_planRun :
    ((told (.planRun 9 []) bank).run.map fun r => r.candidates.map (·.slot)) = some [3, 7, 9] := by
  decide +kernel

/-- PLAN HOLD holds a RUNNING run, PLAN RESUME sets it RUNNING, PLAN ABORT ends it (R130 to R132). -/
theorem test_planHold :
    let s : State := { bank with run := some (runOf .running bank) }
    let h : State := { bank with run := some (runOf .held bank) }
    ((told (.planHold 9 []) s).run.map (·.mode)) = some .held ∧ outcome (.planHold 9 []) h = some .state ∧
      ((told (.planResume 9 []) h).run.map (·.mode)) = some .running ∧ (told (.planAbort 9 []) h).run = none := by
  decide +kernel

/-- The first position of the worked run takes slots 3 and 9 with the reference 14 880 (R122). -/
theorem test_filling :
    let s := after .filling (after .opening { bank with run := some (runOf .running bank) })
    (s.run.bind (·.current)).map (fun x => (x.choices, x.reference, x.toFill)) =
      some ([{ position := 0, slots := [3, 9] }], some 14880, [1]) := by
  decide +kernel

/-- The second position finds no pair: the string is SHORT and its takes are released (R123). -/
theorem test_filling_short :
    let s := after .filling (after .filling (after .opening { bank with run := some (runOf .running bank) }))
    s.run.map (fun r => (r.tentative.map (·.planned), r.candidates.map (·.taken))) =
      some ([false], [false, false, false]) := by
  decide +kernel

/-- An undisturbed run is adopted: the places take its choices (R127); a disturbed one is discarded (R128). -/
theorem test_completion :
    let e : TentativeEntry :=
      { string := 0, planned := true, reference := some 14880, choices := [{ position := 0, slots := [3, 9] }] }
    let r : PlanningRun := { runOf .running bank with tentative := [e], lastProcessed := some 7 }
    let t := after .completion { bank with run := some r }
    let d := after .completion { bank with run := some { r with disturbed := true } }
    t.places[0].slot = some 3 ∧ t.places[1].slot = some 9 ∧ t.records[0].state = .planned ∧ t.run = none ∧
      d.places[0].slot = none ∧ d.run = none := by
  decide +kernel

/-- FIX installs both members; a position with an empty place is EMPTY (R106). -/
theorem test_fix :
    let t := told (.fix 9 [0, 0]) planned
    t.places[0].fixed = true ∧ t.slots[9].map (·.state) = some (.installed 1 false) ∧
      outcome (.fix 9 [0, 1]) planned = some .empty ∧ outcome (.fix 9 [0, 2]) planned = some .range := by
  decide +kernel

/-- UNFIX returns the slots to GRADED (R107, R6). -/
theorem test_unfix :
    let s : State := { told (.fix 9 [0, 0]) planned with upTx := none }
    (told (.unfix 9 [0, 0]) s).slots[3].map (·.state) = some .graded ∧
      ((told (.unfix 9 [0, 0]) s).places[0]) = { slot := some 3, fixed := false, alarm := false } ∧
      outcome (.unfix 9 [0, 0]) planned = some .state := by
  decide +kernel

/-- FIX ALL fixes the one filled position and UNFIX ALL frees it again (R108, R109). -/
theorem test_fixAll :
    let t := told (.fixAll 9 []) planned
    dataSent t = [1] ∧ dataSent (told (.unfixAll 9 []) { t with upTx := none }) = [1] ∧
      dataSent (told (.unfixAll 9 []) planned) = [0] := by
  decide +kernel

/-! ## The store -/

/-- The latch is set and cleared (R167). -/
theorem test_storeEnable :
    (told (.storeEnable 9 []) active).latch = true ∧ (told (.storeDisable 9 []) { active with latch := true }).latch = false := by
  decide +kernel

/-- Image 0 is LOCKED and the refusal clears the latch; a save makes its image invalid at once (R168). -/
theorem test_storeSave :
    let s : State := { active with latch := true, store := { active.store with settings := some Settings.default } }
    outcome (.storeSave 9 [0]) s = some .locked ∧ (told (.storeSave 9 [0]) s).latch = false ∧
      (told (.storeSave 9 [1]) s).store.settings = none ∧ (told (.storeSave 9 [1]) s).storeWork.isSome = true := by
  decide +kernel

/-- The completion writes the image and reports it (R169). -/
theorem test_saveCompletion :
    let s : State := { active with latch := true, storeWork := some (.save (.settings Settings.default)) }
    (after .saveCompletion s).store.settings = some Settings.default ∧ (after .saveCompletion s).latch = false ∧
      reportSent (after .saveCompletion s) = some (.store .save 1) := by
  decide +kernel

/-- An invalid image loads nothing; image 0 and image 9 are RANGE (R170). -/
theorem test_storeLoad :
    outcome (.storeLoad 9 [1]) active = some .invalidImage ∧ outcome (.storeLoad 9 [0]) active = some .range ∧
      outcome (.storeLoad 9 [9]) active = some .range := by
  decide +kernel

/-- CERTIFY without the latch is NOT ENABLED, of image 0 LOCKED, of image 4 RANGE (R171). -/
theorem test_certify :
    outcome (.certify 9 [6]) active = some .notEnabled ∧ outcome (.certify 9 [0]) { active with latch := true } = some .locked ∧
      outcome (.certify 9 [4]) { active with latch := true } = some .range := by
  decide +kernel

/-- The completion sets the certified mark and reports it (R171). -/
theorem test_certifyCompletion :
    let s : State := { active with storeWork := some (.certify 1) }
    ((after .certifyCompletion s).store.certified[1]) = true ∧
      reportSent (after .certifyCompletion s) = some (.store .certify 6) := by
  decide +kernel

/-! ## Witnesses: a state and operands that meet the hypotheses of each statement -/

/-- The directive of the state is heard. -/
theorem heardOn (code : Nat) (params : List Byte) (s : State) (h1 : s.engine = .active) (h2 : s.answer = none)
    (h3 : s.takingSuspended = false) : Heard 9 code params (sent code params s) (taken s) :=
  ⟨⟨by rw [sent, h1]; exact nofun, h2, h3, .inl ⟨[], rfl, rfl⟩⟩, h1⟩

/-- A frame of 240 bytes is taken as it arrives. -/
theorem witness_Taken_arriving :
    Heard 9 32 (List.replicate 239 0) active { active with fieldMask := none, purgeEnable := false } :=
  ⟨⟨nofun, rfl, rfl, .inr ⟨rfl, by decide +kernel, rfl⟩⟩, rfl⟩

/-- A frame is taken in BYPASS. -/
theorem bypassTaken (payload : List Byte) :
    Taken { tag := 9, payload := payload }
      { active with engine := .bypass, directiveQueue := [{ tag := 9, payload := payload }] }
      { active with engine := .bypass, directiveQueue := [], fieldMask := none, purgeEnable := false } :=
  ⟨nofun, rfl, rfl, .inl ⟨[], rfl, rfl⟩⟩

/-- A frame that is taken for UNKNOWN. -/
theorem frameTaken (payload : List Byte) :
    Taken { tag := 9, payload := payload } { active with directiveQueue := [{ tag := 9, payload := payload }] }
      { active with directiveQueue := [], fieldMask := none, purgeEnable := false } :=
  ⟨nofun, rfl, rfl, .inl ⟨[], rfl, rfl⟩⟩

/-- The hypotheses of OutOfPlaceLeavesState are met, clause by clause. -/
theorem witness_OutOfPlaceLeavesState :
    State.reset.pending = [] ∧ active.engine ≠ .starting ∧ { State.reset with resetN := false }.resetN = false ∧
      active.upTx = none ∧ active.dnTx = none ∧
      (∀ r, { active with run := some (runOf .held active) }.run = some r → r.mode = .held) ∧
      (∀ c, { active with storeWork := some (.certify 0) }.storeWork ≠ some (.save c)) ∧
      (∀ g, { active with storeWork := some (.save (.settings Settings.default)) }.storeWork ≠ some (.certify g)) ∧
      (Instr.status 9 []).directive = some (9, 2, []) ∧
      (∀ t, ¬ Taken { tag := 9, payload := [2] } State.reset t) ∧
      (Instr.gradeRowWrite 9 []).writeTables = some [3] ∧ active.pointer.table ∉ [3] ∧
      directiveCodes.contains (68 : Byte).toNat = true ∧ (119 : Nat) < 100 + 20 ∧ 100 + 20 ≤ (120 : Nat) ∧
      (99 : Nat) < 100 ∧ { active with upReceiving := true }.upReceiving = true ∧ 0 < 1 ∧ 16 < 17 :=
  ⟨rfl, nofun, rfl, rfl, rfl, fun r h => by cases h; rfl, nofun, nofun, rfl, fun _ h => h.1 rfl, rfl, by decide,
    by decide, by decide, by decide, by decide, rfl, by decide, by decide⟩

/-- The hypotheses of OutOfPlaceLeavesState on a RUNNING run are met, clause by clause: with a current string, one with
nothing to fill, every string processed, and none. -/
theorem witness_OutOfPlaceLeavesState_run :
    let r := runOf .running bank
    let c : CurrentString := { string := 0, fixedReference := none, reference := none, toFill := [], choices := [] }
    { bank with run := some r }.run = some r ∧ r.mode = .running ∧ { r with current := some c }.current = some c ∧
      c.toFill = [] ∧ r.current = none ∧ { r with lastProcessed := some 1 }.lastProcessed = some 1 ∧
      (∀ j : StringNo, bank.bank[j].enabled = true → j ≤ 1) ∧ bank.bank[(0 : StringNo)].enabled = true ∧
      (∀ l, r.lastProcessed = some l → l < 0) :=
  ⟨rfl, rfl, rfl, rfl, rfl, rfl, by decide +kernel, by decide +kernel, nofun⟩

/-- The hypotheses of IdlePortsServe are met, clause by clause. -/
theorem witness_IdlePortsServe :
    let a : Answer := { tag := 1, code := 2, outcome := .done, data := [] }
    let r : Report := .store .save 1
    let l : LineLevel := { pol := .space, duration := 20, idle := 0 }
    active.resetN = true ∧ { active with upTx := some (.forwarded [1]) }.upTx = some (.forwarded [1]) ∧
      (active.upTx = none ∧ { active with answer := some a }.answer = some a) ∧
      ({ active with reports := [r] }.reports = [r] ∧ active.upQueue = []) ∧
      ({ active with reports := [r], upQueue := [[1]], arbiterCount := 2 }.arbiterCount = 2) ∧
      ({ active with reports := [r], upQueue := [[1]], arbiterCount := 1 }.arbiterCount ≠ 2) ∧
      (State.reset.engine = .starting ∧ { State.reset with upQueue := [[1]] }.upQueue = [[1]]) ∧
      (active.answer = none ∧ active.upQueue = [] ∧ active.reports = []) ∧
      { active with dnTx := some (.level l) }.dnTx = some (.level l) ∧
      (active.dnTx = none ∧ { active with repeats := [l], dnQueue := [[1]] }.repeats = [l]) ∧
      (active.repeats = [] ∧ { active with dnQueue := [[1]] }.dnQueue = [[1]]) ∧ active.dnQueue = [] := by
  decide +kernel

/-- The hypotheses of EndOfTransmissionActs are met, clause by clause. -/
theorem witness_EndOfTransmissionActs :
    let status : Answer := { tag := 1, code := 1, outcome := .done, data := [] }
    let bypass : Answer := { tag := 1, code := 6, outcome := .done, data := [] }
    (∀ a b, UpTransmission.answer status [] = .answer a b → a.outcome = .done → a.code ≠ 5 ∧ a.code ≠ 6) ∧
      (∀ a b, UpTransmission.answer { bypass with outcome := .busy } [] = .answer a b → a.outcome = .done →
        a.code ≠ 5 ∧ a.code ≠ 6) ∧
      { active with upTx := some (.answer bypass []) }.upTx = some (.answer bypass []) ∧ bypass.outcome = .done ∧
      active.run = none ∧ { active with run := some (runOf .held active) }.run ≠ none :=
  ⟨fun _ _ h _ => by cases h; decide, fun _ _ h => by cases h; exact nofun, rfl, rfl, rfl, nofun⟩

/-- The hypotheses of RestartTriggersStart are met, clause by clause. -/
theorem witness_RestartTriggersStart :
    let restart : Answer := { tag := 1, code := 5, outcome := .done, data := [] }
    { active with upTx := some (.answer restart []) }.upTx = some (.answer restart []) ∧
      restart.outcome = .done ∧ restart.code = 5 :=
  ⟨rfl, rfl, rfl⟩

/-- The hypotheses of BreakJudged are met, clause by clause. -/
theorem witness_BreakJudged :
    active.resetN = true ∧ 1530 + 20 ≤ 1550 ∧ { active with lastBreakEnd := 530 }.lastBreakEnd + 1000 < 1531 ∧
      ¬ { active with lastBreakEnd := 530 }.lastBreakEnd + 1000 < 1530 ∧
      breakRow 0 .space False 1 ∧ breakRow 0 .mark True 0 ∧ breakRow 1 .mark False 2 ∧ breakRow 2 .space False 3 ∧
      breakRow 1 .mark True 0 ∧ breakRow 2 .space True 1 ∧ breakRow 3 .mark True 0 ∧ breakRow 1 .space False 1 ∧
      breakRow 3 .space False 1 ∧ breakRow 2 .mark False 0 ∧ { active with patternCount := 3 }.patternCount = 3 := by
  simp [breakRow, active, State.reset]

/-- The hypotheses of LevelsRepeatedAndFramesCut are met, clause by clause. -/
theorem witness_LevelsRepeatedAndFramesCut :
    active.resetN = true ∧ active.upReceiving = false ∧ 100 + 20 ≤ 120 ∧ 100 ≤ 119 ∧ 119 < 100 + 20 ∧
      (∃ t, exec (.lineBreak .mark 100 120 0) active = .next t) ∧
      { active with dnReceiving := true }.dnReceiving = true ∧ active.dnReceiving = false :=
  ⟨rfl, rfl, by decide, by decide, by decide, ⟨_, rfl⟩, rfl, rfl⟩

/-- The hypotheses of DownPortArrivalRows are met, clause by clause. -/
theorem witness_DownPortArrivalRows :
    let good := sampleFrame 1 0 1000 0 0
    let bad := good.set 4 9
    let other := buildFrame 4 17 0 []
    active.resetN = true ∧ { active with upQueue := List.replicate 7 [1] }.upQueue.length < 8 ∧
      8 ≤ { active with upQueue := List.replicate 8 [1] }.upQueue.length ∧ 246 < (List.replicate 247 (1 : Byte)).length ∧
      ([1, 1, 0, 0, 0] : Frame).length < 6 ∧ lengthRule good = true ∧ good.length = 4 + byteAt good 3 + 2 ∧
      goodCheck good = true ∧ goodCheck bad = false ∧ bad.length = 4 + byteAt bad 3 + 2 ∧
      goodCheck other = true ∧ byteAt other 0 ≠ 1 ∧ byteAt good 0 = 1 ∧ byteAt good 1 = 1 ∧
      byteAt (buildFrame 1 16 0 []) 1 = 16 ∧ byteAt (buildFrame 1 17 0 []) 1 = 17 ∧ active.engine = .active := by
  decide +kernel

/-- The hypotheses of UpPortArrivalRows are met, clause by clause. -/
theorem witness_UpPortArrivalRows :
    let mine := buildFrame 2 30 7 [1]
    let bad := mine.set 4 9
    let other := buildFrame 2 29 7 [1]
    active.resetN = true ∧ { active with dnQueue := List.replicate 3 [1] }.dnQueue.length < 4 ∧
      4 ≤ { active with dnQueue := List.replicate 4 [1] }.dnQueue.length ∧
      (active.engine ≠ .starting ∧ byteAt mine 0 = 2 ∧ byteAt mine 1 = active.engineAddress) ∧ goodCheck mine = true ∧
      (byteAt bad 1 = active.engineAddress ∧ goodCheck bad = false ∧ lengthRule bad = true) ∧
      (byteAt other 1 ≠ active.engineAddress ∧ goodCheck other = true) ∧
      { active with directiveQueue := List.replicate 3 { tag := 0, payload := [] } }.directiveQueue.length < 4 ∧
      4 ≤ { active with directiveQueue := List.replicate 4 { tag := 0, payload := [] } }.directiveQueue.length := by
  decide +kernel

/-- The hypotheses of BuiltFramesAreGood are met, clause by clause. -/
theorem witness_BuiltFramesAreGood : 255 < 256 ∧ (List.replicate 240 (7 : Byte)).length ≤ 240 := by decide +kernel

/-- A store whose images 1 to 5 are valid, with image 9 of the same bank map. -/
def imaged : State :=
  { State.reset with store := { State.reset.store with
      settings := some { Settings.default with storedAddress := 17, addressSource := 31 }
      profiles := some { profiles := mapped.profiles, curves := mapped.curves }
      slotMap := some mapped.slotMap
      bank := some bank.bank
      grades := State.reset.store.grades.set 0 (some active.rows)
      install := some { bank := bank.bank, records := [{
        string := 1, position := 2, alarms := [false]
        slots := [{ slot := 63, tag := [], family := 1, cells := 12, rated := 7400,
                    state := .installed 2 true, figures := Figures.none }] }] } } }

/-- The hypotheses of StartUpClears are met, clause by clause. -/
theorem witness_StartUpClears :
    State.reset.engine = .starting ∧ State.reset.resetN = true ∧ State.reset.restartCause ≠ .linkReset ∧
      { State.reset with restartCause := .linkReset }.restartCause = .linkReset :=
  ⟨rfl, rfl, nofun, rfl⟩

/-- The hypotheses of StartUpLoads are met, clause by clause. -/
theorem witness_StartUpLoads :
    imaged.engine = .starting ∧ imaged.resetN = true ∧ imaged.store.profiles.isSome = true ∧
      State.reset.store.profiles = none ∧ Settings.default.bootImage = (0 : GradeImage).val + 5 ∧
      imaged.store.grades[(0 : GradeImage)].isSome = true ∧ State.reset.store.grades[(0 : GradeImage)] = none ∧
      (∀ k : Fin 5, (17 : BitVec 5).getLsbD k = if (31 : BitVec 5).getLsbD k then (17 : BitVec 5).getLsbD k
        else (0 : BitVec 5).getLsbD k) ∧
      (17 ≤ (17 : BitVec 5).toNat ∧ (30 : BitVec 5).toNat ≤ 30) ∧ (16 : BitVec 5).toNat < 17 ∧
      30 < (31 : BitVec 5).toNat := by
  decide +kernel

/-- The hypotheses of StartUpRestores are met, clause by clause. -/
theorem witness_StartUpRestores :
    let t := after (.startUp 0 5) imaged
    State.reset.store.install = none ∧ t.installResult = .restored ∧
      (after (.startUp 0 5) { imaged with store := { imaged.store with bank := none } }).installResult = .conflict ∧
      t.slots[(63 : SlotNo)].isSome = true ∧ whollyFixed t 1 = false ∧
      imaged.store.install.any (fun c => c.records.length == 1 && c.records.all (fun r =>
        (t.bank[r.string].placesOf r.position).zip (r.slots.map (·.slot)) == [(6, 63)])) = true ∧
      t.places[(6 : PlaceNo)].slot = some 63 ∧
      whollyFixed (after (.startUp 0 5) { imaged with store := { imaged.store with
        bank := some (bank.bank.set 1 (bankString .single 4 1 12 30 0))
        install := some { bank := bank.bank.set 1 (bankString .single 4 1 12 30 0), records := [{
          string := 1, position := 0, alarms := [false]
          slots := [{ slot := 63, tag := [], family := 1, cells := 12, rated := 7400,
                      state := .installed 2 true, figures := Figures.none }] }] } } }) 1 = true := by
  decide +kernel

/-- The hypotheses of ObservedFrameNoted are met, clause by clause. -/
theorem witness_ObservedFrameNoted :
    let good : List Byte := [0, 1, 1] ++ List.replicate 10 0
    16 = (15 : Fin 16).val + 1 ∧ ([0, 1] : List Byte).length < 3 ∧ byteAt [0, 1, 0] 2 < 1 ∧ 8 < byteAt [0, 1, 9] 2 ∧
      good.length = 3 + 10 * byteAt good 2 ∧ 1 ≤ byteAt good 2 ∧ byteAt good 2 ≤ 8 ∧
      (good ++ [0]).length ≠ 3 + 10 * byteAt good 2 := by
  decide +kernel

/-- The hypotheses on a used channel entry are met: channel 0 of node 1 beyond each range and inside it (R26, R27). -/
theorem witness_ObservedFrameNoted_entry :
    let high := framePayload (sampleFrame 9 0 800001 500001 1251)
    let low := framePayload (sampleFrame 9 0 0 (-500001) (-401))
    let edge := framePayload (sampleFrame 9 0 800000 (-500000) 1250)
    mapped.slotMap[(0 : Fin 16).val * 8 + byteAt high 3]? = some (some 8) ∧ byteAt high 3 ≤ 7 ∧
      byteAt high 4 % 2 = 1 ∧ unsignedAt high 0 2 = 9 ∧
      (unsignedAt high 5 3 = 800001 ∧ signedAt high 8 3 = 500001 ∧ signedAt high 11 2 = 1251) ∧
      (signedAt low 8 3 = -500001 ∧ signedAt low 11 2 = -401) ∧
      (unsignedAt edge 5 3 = 800000 ∧ signedAt edge 8 3 = -500000 ∧ signedAt edge 11 2 = 1250) := by
  decide +kernel

/-- A used entry beyond its ranges is worked with the clamped sample, marked clipped, for the slot of its map entry. -/
theorem test_workEntry :
    channelSample (framePayload (sampleFrame 9 0 800001 (-500001) 0)) 0 =
      { voltage := 800000, current := -500000, temperature := 0, tick := 9, clipped := true } ∧
    channelSample (framePayload (sampleFrame 9 0 800000 (-500000) 1250)) 0 =
      { voltage := 800000, current := -500000, temperature := 1250, tick := 9, clipped := false } := by
  decide +kernel

/-- A TESTING slot 8 with a previous sample at tick 0. -/
def sampled : State :=
  { mapped with slots := mapped.slots.set 8 (some { moduleOf .testing 0 0 none with tracker := { Tracker.initial with
      previous := some { voltage := 492000, current := 0, temperature := 170, tick := 0, phase := .rest,
                         clipped := false } } }) }

/-- A sample at tick 1 of the given voltage and temperature. -/
def sampleOf (voltage : Nat) (temperature : Int) : ClampedSample :=
  { voltage := voltage, current := 0, temperature := temperature, tick := 1, clipped := false }

/-- The hypotheses of UnacceptedSampleLeaves are met, clause by clause. -/
theorem witness_UnacceptedSampleLeaves :
    let quarantined := moduleOf (.quarantined .highVoltage none) 15 0 none
    active.slots[(0 : SlotNo)] = none ∧ quarantined.state = .quarantined .highVoltage none ∧
      State.reset.engine ≠ .active ∧ active.profiles[(1 : Family)].valid = false ∧
      ({ sampleOf 492000 170 with tick := 65536 }.tick + 65536 - 0) % 65536 = 0 ∧ 7 < byteAt [0, 0, 1, 8] (3 + 10 * 0) ∧
      byteAt [0, 0, 1, 7, 0] (3 + 10 * 0 + 1) % 2 = 0 ∧ resolve active 1 0 = none ∧
      byteAt (List.replicate 23 (1 : Byte)) (3 + 10 * 0) = byteAt (List.replicate 23 (1 : Byte)) (3 + 10 * 1) := by
  decide +kernel

/-- The hypotheses of HardLimitQuarantines are met, clause by clause. -/
theorem witness_HardLimitQuarantines :
    let m := moduleOf .testing 0 0 none
    sampled.slots[(8 : SlotNo)].isSome = true ∧ m.isQuarantined = false ∧ sampled.engine = .active ∧
      sampled.profiles[m.family].valid = true ∧ (1 + 65536 - 0) % 65536 ≠ 0 ∧
      profile.hardHigh * m.cells < (sampleOf 516001 170).voltage ∧
      ((sampleOf 299999 170).voltage ≤ profile.hardHigh * m.cells ∧
        (sampleOf 299999 170).voltage < profile.hardLow * m.cells) ∧
      ((sampleOf 516000 601).voltage ≤ profile.hardHigh * m.cells ∧
        profile.hardLow * m.cells ≤ (sampleOf 300000 601).voltage ∧
        profile.hardTemperature < (sampleOf 516000 601).temperature) ∧
      placeOf sampled 8 = none ∧ placeOf planned 3 = some 0 ∧ planned.places[(0 : PlaceNo)].fixed = false ∧
      ownerOf planned.bank 0 = some (0, 0) ∧ (moduleOf (.installed 2 false) 1 0 none).state = .installed 2 false ∧
      m.state = .testing ∧ (told (.fix 9 [0, 0]) planned).places[(0 : PlaceNo)].fixed = true ∧
      hasUnstruckEntry { bank with run := some (runOf .held bank) } 3 = true := by
  decide +kernel

/-- The hypotheses of AcceptedSampleWorked are met, clause by clause. -/
theorem witness_AcceptedSampleWorked :
    let m := moduleOf .testing 0 0 none
    let d := fun x : ClampedSample => (trackSample profile 12 m.figures.tmax Tracker.initial x).2
    sampled.slots[(8 : SlotNo)].isSome = true ∧ m.isQuarantined = false ∧ sampled.engine = .active ∧
      sampled.profiles[m.family].valid = true ∧ (1 + 65536 - 0) % 65536 ≠ 0 ∧
      (sampleOf 516000 600).voltage ≤ profile.hardHigh * m.cells ∧
      profile.hardLow * m.cells ≤ (sampleOf 300000 600).voltage ∧
      (sampleOf 300000 600).temperature ≤ profile.hardTemperature ∧ (d (sampleOf 492000 170)).tmax = some 170 ∧
      (d (sampleOf 492000 170)).run = none ∧ (moduleOf .admitted 0 0 none).state = .admitted ∧ m.figures.tmax = none ∧
      (trackSample profile 12 (some 170) Tracker.initial (sampleOf 492000 170)).2.tmax = none := by
  decide +kernel

/-- A sample closes a capacity run and a sample makes a step, so that figures are handed on (R36, R44, R66). -/
theorem witness_AcceptedSampleWorked_handed :
    let prev : Sample :=
      { voltage := 360000, current := -50000, temperature := 170, tick := 0, phase := .discharge, clipped := false }
    let running : Tracker := { Tracker.initial with
      previous := some prev
      phase := .discharge
      run := some { accumulator := -540040000000, minVoltage := 356400, gaps := 0, clipped := false } }
    let resting : Tracker := { Tracker.initial with previous := some { prev with current := 0, phase := .rest } }
    (trackSample profile 12 none running (sampleOf 361000 170)).2.run.isSome = true ∧
      (trackSample profile 12 none resting { sampleOf 350000 170 with current := -50000 }).2.step.isSome = true := by
  decide +kernel

/-- The review test meets a non-fixed position of a PLANNED string whose key is in tolerance of its reference, out of
it, and absent; and a run meets a CAP that differs from the unstruck entry and one that does not (R111, R129). -/
theorem witness_AcceptedSampleWorked_review :
    let far : State := { planned with records := planned.records.set 0 { state := .planned, reference := some 20000, review := 0 } }
    let keyless : State := { planned with slots := planned.slots.set 3 (some { moduleOf .graded 1 0 none with figures := Figures.none }) }
    let r := runOf .held bank
    let changed : State := { bank with run := some r, slots := bank.slots.set 3 (some (moduleOf .graded 1 7000 (some 7040))) }
    placeOf planned 3 = some 0 ∧ planned.places[(0 : PlaceNo)].fixed = false ∧ ownerOf planned.bank 0 = some (0, 0) ∧
      planned.records[(0 : StringNo)].state = .planned ∧ positionKey planned 0 0 = some 14880 ∧
      planned.bank[(0 : StringNo)].capTolerance = 50 ∧ ¬ 50 * 14880 < ((14880 : Int) - 14880).natAbs * 1000 ∧
      (far.records[(0 : StringNo)].reference = some 20000 ∧ 50 * 20000 < ((14880 : Int) - 20000).natAbs * 1000) ∧
      positionKey keyless 0 0 = none ∧
      (r.entryOf 3).any (fun c => c.cap == 7500 && c.rdc == some 7040 && !c.struck) = true ∧
      bank.slots[(3 : SlotNo)].any (fun m => m.figures.cap.map (·.value) == some 7500) = true ∧
      changed.slots[(3 : SlotNo)].any (fun m => m.figures.cap.map (·.value) == some 7000) = true := by
  decide +kernel

/-- The hypotheses of NodeFallsSilent are met, clause by clause. -/
theorem witness_NodeFallsSilent :
    let s : State := { mapped with nodes := mapped.nodes.set 0 { NodeEntry.initial with lastArrival := some 0 } }
    s.engine = .active ∧ s.slotMap[(0 : Fin 16).val * 8 + 0]? = some (some 8) ∧ s.nodes[(0 : Fin 16)].silent = false ∧
      s.nodes[(0 : Fin 16)].lastArrival = some 0 ∧ 0 + s.settings.silenceTimeout ≤ s.engineTime + 5000 ∧
      ¬ 0 + s.settings.silenceTimeout ≤ s.engineTime + 4999 := by
  decide +kernel

/-- The hypotheses of CapacityRunCarried are met, clause by clause. -/
theorem witness_CapacityRunCarried :
    let prev : Sample :=
      { voltage := 492000, current := 0, temperature := 170, tick := 0, phase := .rest, clipped := false }
    let t : Tracker := { Tracker.initial with previous := some prev }
    let r : CapacityRun := { accumulator := -5, minVoltage := 360000, gaps := 2, clipped := false }
    t.previous = some prev ∧ t.run = none ∧ (-501 : Int) < -(profile.restThreshold : Int) ∧ prev.phase ≠ .discharge ∧
      profile.fullMark * 12 ≤ prev.voltage ∧ ¬ (-500 : Int) < -(profile.restThreshold : Int) ∧
      491999 < profile.fullMark * 12 ∧ { t with run := some r }.run = some r ∧ profile.maxGap < (2001 + 65536 - 0) % 65536 ∧
      profile.gapAllowance < r.gaps + 1 ∧ (2000 + 65536 - 0) % 65536 ≤ profile.maxGap ∧
      { r with gaps := 1 }.gaps + 1 ≤ profile.gapAllowance ∧
      ((2 : Int) ^ 48 < 2 ^ 48 + 1 ∧ -((2 : Int) ^ 48) - 1 < -(2 ^ 48)) ∧ min r.minVoltage 360000 ≤ profile.emptyMark * 12 ∧
      ¬ 360001 ≤ profile.emptyMark * 12 := by
  decide +kernel

/-- The hypotheses of RestWindowAndStepCarried are met, clause by clause. -/
theorem witness_RestWindowAndStepCarried :
    let prev : Sample :=
      { voltage := 492410, current := 0, temperature := 170, tick := 0, phase := .rest, clipped := false }
    let w : RestWindow := { stage := .settling, elapsed := 59000, gaps := 2 }
    let o : RestWindow := { stage := .opened 492420, elapsed := 3599000, gaps := 0 }
    (501 : Int) > (profile.restThreshold : Int) ∧ (-501 : Int) < -(profile.restThreshold : Int) ∧
      ¬ (500 : Int) > (profile.restThreshold : Int) ∧ Tracker.initial.window = none ∧
      { Tracker.initial with charged := true }.charged = true ∧ 0 < profile.settleTime ∧
      { profile with settleTime := 0 }.settleTime = 0 ∧ (1000 + 65536 - 0) % 65536 ≤ profile.maxGap ∧
      w.elapsed + 999 < profile.settleTime * 1000 ∧ profile.settleTime * 1000 ≤ w.elapsed + 1000 ∧
      o.elapsed + 999 < profile.restWindow * 1000 ∧ profile.restWindow * 1000 ≤ o.elapsed + 1000 ∧
      (profile.maxGap < (2001 + 65536 - 0) % 65536 ∧ profile.gapAllowance < w.gaps + 1) ∧
      Tracker.initial.charged = false ∧ { Tracker.initial with charged := true, window := some w }.window = some w ∧
      (profile.stepMinimum ≤ (-5000 - prev.current).natAbs ∧ (200 + 65536 - 0) % 65536 ≤ profile.stepInterval ∧
        (0 : Int) < (prev.voltage : Int) - 492409 ∧ -5000 - prev.current < 0) ∧
      ¬ profile.stepMinimum ≤ (-4999 - prev.current).natAbs ∧
      (Tracker.initial.previous = none ∧ Tracker.initial.run = none ∧ Tracker.initial.window = none) := by
  decide +kernel

/-- The hypotheses of FactorBetweenPoints are met, clause by clause. -/
theorem witness_FactorBetweenPoints :
    let a : CurvePoint := { written := true, temperature := 0, factor := 1200 }
    let b : CurvePoint := { written := true, temperature := 2, factor := 1000 }
    a.temperature < 1 ∧ 1 < b.temperature ∧ ((b.factor : Int) - a.factor) * (1 - a.temperature) < 0 ∧
      0 ≤ ((a.factor : Int) - b.factor) * (1 - a.temperature) := by
  decide

/-- A curve of family 1 with its points at 0, 10, … 70 and factors falling from 1400 to 700. -/
def sloped : Vector CurvePoint 32 :=
  (List.finRange 8).foldl (fun c k => c.set (8 + k.val)
    { written := true, temperature := 10 * k.val, factor := 1400 - 100 * k.val }) active.curves

/-- The hypotheses on a curve are met: an unwritten point, and an ascending one with temperatures below, at, between and
above its points; and the factors there are those of R57 and R58. -/
theorem witness_FactorBetweenPoints_curve :
    (∃ k : Fin 8, (active.curves[(1 : Family).val * 8 + k.val]'(by omega)).written = false) ∧
      (∀ k : Fin 8, (sloped[(1 : Family).val * 8 + k.val]'(by omega)).written = true) ∧
      (∀ j k : Fin 8, j < k → (sloped[(1 : Family).val * 8 + j.val]'(by omega)).temperature <
        (sloped[(1 : Family).val * 8 + k.val]'(by omega)).temperature) ∧
      curveFactor (curveOf active.curves 1) 5 = 1000 ∧ curveFactor (curveOf sloped 1) (-1) = 1400 ∧
      curveFactor (curveOf sloped 1) 0 = 1400 ∧ curveFactor (curveOf sloped 1) 30 = 1100 ∧
      curveFactor (curveOf sloped 1) 33 = 1070 ∧ curveFactor (curveOf sloped 1) 70 = 700 ∧
      curveFactor (curveOf sloped 1) 71 = 700 := by
  decide +kernel

/-- The hypotheses of FigureQuotients are met, clause by clause. -/
theorem witness_FigureQuotients :
    (4718591999999 : Nat) < 65536 * 72000000 ∧ 65536 * 72000000 ≤ (4718592000000 : Nat) ∧
      0 < 1000 ∧ 1500 * 1000 < 1501 * 1000 ∧ 1501 * 1000 ≤ 1501 * 1000 ∧ (-1 : Int) ≠ 0 ∧
      2 * 65535499 + 1000 < 2000 * 65536 ∧ 2000 * 65536 ≤ 2 * 65535500 + 1000 ∧
      [({ value := 1, saturated := true } : MarkedFigure)] ≠ [] ∧
      2 * 65535 + 1 < 2 * 65536 * 1 ∧ 2 * 65536 * 1 ≤ 2 * 65536 + 1 := by
  decide

/-- The table of one criterion in row 0: CAP above 7000, grade 1 for family 1. -/
def oneRow (strict : Bool) : GradeTable :=
  active.rows.set 0 { enabled := true, code := 1, families := 2, criteria := [{
    figure := .cap, predicate := { less := false, equal := false, greater := true, unknown := false },
    strict := strict, threshold := 7000 }] }

/-- The hypotheses of EvaluationByRows are met, clause by clause. -/
theorem witness_EvaluationByRows :
    let f := (moduleOf .testing 0 7001 none).figures
    let low := (moduleOf .testing 0 7000 none).figures
    (applicable (oneRow true)[(0 : Fin 16)] 1 = true ∧ rowTrue f (oneRow true)[(0 : Fin 16)] ∧
        ¬ rowDefers f (oneRow true)[(0 : Fin 16)]) ∧
      ((oneRow true)[(0 : Fin 16)].criteria[0]?.any (fun c => c.strict && (figureValue Figures.none c.figure).isNone)) = true ∧
      (∀ j : Fin 16, rowPassed low 1 (oneRow true)[j]) ∧ (∀ j : Fin 16, rowPassed Figures.none 1 (oneRow false)[j]) ∧
      (∀ j : Fin 16, applicable active.rows[j] 1 = false) ∧
      (figureValue f .cap = some 7001 ∧ figureValue low .cap = some 7000 ∧ figureValue Figures.none .cap = none ∧
        (7000 : Int) < 7001 ∧ (7000 : Int) < 7001) := by
  have h : ∀ b : Bool, ∀ j : Fin 16, applicable (oneRow b)[j] 1 = true → j = 0 := by decide +kernel
  have c : ∀ b : Bool, ∀ x ∈ (oneRow b)[(0 : Fin 16)].criteria, x = {
      figure := .cap, predicate := { less := false, equal := false, greater := true, unknown := false },
      strict := b, threshold := 7000 } := fun _ _ hx => List.mem_singleton.1 hx
  have first : ∀ b : Bool, (oneRow b)[(0 : Fin 16)].criteria = [{
      figure := .cap, predicate := { less := false, equal := false, greater := true, unknown := false },
      strict := b, threshold := 7000 }] := fun _ => rfl
  refine ⟨⟨by decide +kernel, fun x hx => ?_, fun ⟨x, hx, hd⟩ => ?_⟩, by decide +kernel, fun j hj => ?_, fun j hj => ?_,
    by decide +kernel, by decide +kernel⟩
  · rw [c _ x hx]; rfl
  · rw [c _ x hx] at hd; exact nomatch hd.2
  · obtain rfl := h _ j hj
    refine ⟨fun ht => ?_, fun ⟨x, hx, hd⟩ => ?_⟩
    · have := ht _ (by rw [first]; exact List.mem_singleton_self _)
      exact Bool.false_ne_true this
    · rw [c _ x hx] at hd; exact nomatch hd.2
  · obtain rfl := h _ j hj
    refine ⟨fun ht => ?_, fun ⟨x, hx, hd⟩ => ?_⟩
    · have := ht _ (by rw [first]; exact List.mem_singleton_self _)
      exact Bool.false_ne_true this
    · rw [c _ x hx] at hd; exact nomatch hd.1

/-- The planned bank with position 0 of string 0 fixed. -/
def fixedBank : State := { told (.fix 9 [0, 0]) planned with upTx := none, answer := none }

/-- The hypotheses of EvaluationEffects are met, clause by clause. -/
theorem witness_EvaluationEffects :
    let s : State := { bank with rows := oneRow true }
    let row := (oneRow true)[(0 : Fin 16)]
    s.window = none ∧ { s with window := some { written := false, shadow := s.rows } }.window ≠ none ∧
      s.slots[(3 : SlotNo)].isSome = true ∧ (moduleOf .graded 1 7500 (some 7040)).state = .graded ∧
      evaluate s.rows 1 (moduleOf .graded 1 7500 (some 7040)).figures = .graded 1 (some 0) ∧
      evaluate s.rows 1 (moduleOf .graded 1 7000 none).figures = .graded 15 none ∧
      evaluate s.rows 1 Figures.none = .deferred 0 0 ∧ row.code = 1 ∧ placeOf planned 3 = some 0 ∧
      ownerOf planned.bank 0 = some (0, 0) ∧ planned.places[(0 : PlaceNo)].fixed = false ∧
      planned.bank[(0 : StringNo)].gradeMask.getLsbD 15 = false ∧ planned.bank[(0 : StringNo)].gradeMask.getLsbD 2 = true ∧
      placeOf bank 3 = none ∧ (moduleOf (.installed 2 true) 1 7500 none).state = .installed 2 true ∧
      fixedBank.places[(0 : PlaceNo)].fixed = true ∧ placeOf fixedBank 3 = some 0 ∧
      decide (1 ≠ 1) = false ∧ decide (15 ≠ 1) = true := by
  decide +kernel

/-- The hypotheses of ReportPlaced are met, clause by clause. -/
theorem witness_ReportPlaced :
    let r : Report := .figure 3 1
    let full : List Report := (List.range 16).map fun i => .grade (Fin.ofNat 64 i) 0 1 none
    { active with reportMask := 0 }.reportMask.getLsbD r.kind.code = false ∧ r.kind ≠ .start ∧ r.kind ≠ .attention ∧
      active.reportMask.getLsbD r.kind.code = true ∧ (full.take 15).length < 16 ∧ 16 ≤ full.length ∧
      (∀ w ∈ full, ¬ (w.kind = r.kind ∧ w.slot = r.slot)) ∧
      ([Report.figure 2 1, .figure 3 2] : List Report) = [.figure 2 1] ++ Report.figure 3 2 :: [] ∧
      (Report.strict 3 0 1).kind = (Report.strict 3 1 2).kind ∧ (Report.strict 3 0 1).kind ≠ .figure := by
  decide +kernel

/-- The hypotheses of ChecksAnswered are met, clause by clause. -/
theorem witness_ChecksAnswered :
    Taken { tag := 9, payload := [] } { active with directiveQueue := [{ tag := 9, payload := [] }] }
        { active with directiveQueue := [], fieldMask := none, purgeEnable := false } ∧
      (directiveCodes.contains (10 : Byte).toNat = false ∧
        Taken { tag := 9, payload := [10, 1] } { active with directiveQueue := [{ tag := 9, payload := [10, 1] }] }
          { active with directiveQueue := [], fieldMask := none, purgeEnable := false }) ∧
      ((Instr.seek 9 [0, 0]).directive = some (9, 16, [0, 0]) ∧ pointerFits (.seek 9 [0, 0]) active ∧
        Taken { tag := 9, payload := [16, 0, 0] }
          { active with engine := .bypass, directiveQueue := [{ tag := 9, payload := [16, 0, 0] }] }
          { active with engine := .bypass, directiveQueue := [], fieldMask := none, purgeEnable := false }) :=
  ⟨frameTaken [], ⟨by decide, frameTaken [10, 1]⟩, rfl, nofun, bypassTaken _⟩

/-- The hypotheses of ReadOutBytes are met: a VACANT and an occupied slot, and a row with a criterion in place 0 alone. -/
theorem witness_ReadOutBytes :
    bank.slots[(63 : SlotNo)] = none ∧
      bank.slots[(3 : SlotNo)].any (fun m => m.tag.length == 16 && m.figures.steps.length ≤ 4) = true ∧
      (oneRow true)[(0 : Fin 16)].criteria[(0 : Fin 4).val]?.isSome = true ∧
      (oneRow true)[(0 : Fin 16)].criteria[(3 : Fin 4).val]? = none := by
  decide +kernel

/-- A slot record opens as spec/12 lays it out: slot 3, GRADED, CAP, RDC and the place present, the tag, family 1, 12 cells,
7400, CAP 7500, SOH absent, RDC 7040. -/
theorem test_slotRecord :
    (entryBytes planned 6 3).take 30 =
      [3, 3, 1, 5] ++ List.replicate 16 7 ++ [1, 12, 0x1C, 0xE8, 0x1D, 0x4C, 0, 0, 0x1B, 0x80] ∧
    (entryBytes planned 6 3).length = 84 ∧ byteAt (entryBytes planned 6 3) 45 = 1 ∧
    reportPayload (.plan .adopted false []) = [5, 255, 0, 0] := by
  decide +kernel

/-- The hypotheses of WrongLengthAnswered are met, clause by clause. -/
theorem witness_WrongLengthAnswered :
    let ro : State := { active with pointer := { table := 8, index := 0 } }
    (pointerFits (.seek 9 [0]) active ∧ Heard 9 16 [0] (sent 16 [0] active) (taken active) ∧
        parameterLength 16 = some (some 2)) ∧
      (pointerFits (.write 9 []) ro ∧ Heard 9 20 [] (sent 20 [] ro) (taken ro) ∧ 5 ≤ 8 ∧ ro.pointer.table ≤ 8) ∧
      (pointerFits (.slotMapWrite 9 []) active ∧ Heard 9 20 [] (sent 20 [] active) (taken active) ∧
        writeFormLength active.pointer.table = some 1) :=
  ⟨⟨nofun, heardOn _ _ _ rfl rfl rfl, rfl⟩,
    ⟨fun ts h => by cases h; decide, heardOn _ _ _ rfl rfl rfl, by decide, by decide⟩,
    fun ts h => by cases h; decide, heardOn _ _ _ rfl rfl rfl, rfl⟩

/-- The hypotheses of IdentifyAndStatus are met, clause by clause. -/
theorem witness_IdentifyAndStatus :
    Taken { tag := 9, payload := [1] } { active with directiveQueue := [{ tag := 9, payload := [1] }] }
        { active with directiveQueue := [], fieldMask := none, purgeEnable := false } ∧
      Taken { tag := 9, payload := [2] }
        { active with engine := .bypass, directiveQueue := [{ tag := 9, payload := [2] }] }
        { active with engine := .bypass, directiveQueue := [], fieldMask := none, purgeEnable := false } ∧
      active.store.identity ≠ none ∧ { active.store with identity := none }.identity = none ∧
      Counters.bounded { badCheck := 65535, malformed := 65535, upOverflow := 65535, downOverflow := 65535,
                         directiveOverflow := 65535, reportOverflow := 65535 } ∧ active.engineAddress ≤ 30 ∧
      (active.run = none ∧ active.origin = none) ∧ { active with origin := some 3 }.origin = some 3 ∧
      (runOf .held bank).current = none ∧ ((runOf .running bank).mode = .running ∧ (runOf .held bank).mode = .held) ∧
      { string := 7, fixedReference := none, reference := none, toFill := [], choices := [] : CurrentString }.string.val = 7 :=
  ⟨frameTaken [1], bypassTaken [2], nofun, rfl, by simp [Counters.bounded], by decide, ⟨rfl, rfl⟩, rfl, rfl, ⟨rfl, rfl⟩, rfl⟩

/-- The hypotheses of StatusClearAndReportMask are met, clause by clause. -/
theorem witness_StatusClearAndReportMask :
    Heard 9 3 [3, 255, 63] (sent 3 [3, 255, 63] active) (taken active) ∧ ([3, 255, 63] : List Byte).length = 3 ∧
      Heard 9 4 [0, 255] (sent 4 [0, 255] active) (taken active) ∧ ([0, 255] : List Byte).length = 2 :=
  ⟨heardOn _ _ _ rfl rfl rfl, rfl, heardOn _ _ _ rfl rfl rfl, rfl⟩

/-- The hypotheses of MarkAndModeDirectives are met, clause by clause. -/
theorem witness_MarkAndModeDirectives :
    let busy : State := { active with storeWork := some (.certify 0) }
    Heard 9 5 [] (sent 5 [] active) (taken active) ∧
      (Heard 9 6 [] (sent 6 [] active) (taken active) ∧ active.storeWork = none) ∧
      (Heard 9 6 [] (sent 6 [] busy) (taken busy) ∧ busy.storeWork ≠ none) ∧
      Heard 9 7 [] (sent 7 [] active) (taken active) ∧
      Taken { tag := 9, payload := [7] }
        { active with engine := .bypass, directiveQueue := [{ tag := 9, payload := [7] }] }
        { active with engine := .bypass, directiveQueue := [], fieldMask := none, purgeEnable := false } ∧
      Heard 9 19 [255, 255] (sent 19 [255, 255] active) (taken active) ∧
      Heard 9 8 [] (sent 8 [] active) (taken active) ∧ Heard 9 64 [] (sent 64 [] active) (taken active) ∧
      Heard 9 65 [] (sent 65 [] active) (taken active) :=
  ⟨heardOn _ _ _ rfl rfl rfl, ⟨heardOn _ _ _ rfl rfl rfl, rfl⟩, ⟨heardOn _ _ _ rfl rfl rfl, nofun⟩,
    heardOn _ _ _ rfl rfl rfl, bypassTaken [7], heardOn _ _ _ rfl rfl rfl, heardOn _ _ _ rfl rfl rfl,
    heardOn _ _ _ rfl rfl rfl, heardOn _ _ _ rfl rfl rfl⟩

/-- The hypotheses of PurgeEffect are met, clause by clause. -/
theorem witness_PurgeEffect :
    let marked : State := { planned with purgeEnable := true }
    let running : State := { marked with run := some (runOf .held planned) }
    (Heard 9 9 [] (sent 9 [] planned) (taken planned) ∧ planned.purgeEnable = false) ∧
      (Heard 9 9 [] (sent 9 [] running) (taken running) ∧ running.purgeEnable = true ∧ running.run ≠ none) ∧
      (Heard 9 9 [] (sent 9 [] marked) (taken marked) ∧ marked.purgeEnable = true ∧ marked.run = none) :=
  ⟨⟨heardOn _ _ _ rfl rfl rfl, rfl⟩, ⟨heardOn _ _ _ rfl rfl rfl, rfl, nofun⟩, heardOn _ _ _ rfl rfl rfl, rfl, rfl⟩

/-- The hypotheses of PointerMoves are met, clause by clause. -/
theorem witness_PointerMoves :
    (Heard 9 16 [9, 0] (sent 16 [9, 0] active) (taken active) ∧ (0 : Byte).toNat < tableEntries (9 : Byte).toNat) ∧
      (Heard 9 16 [0, 127] (sent 16 [0, 127] active) (taken active) ∧
        (127 : Byte).toNat < tableEntries (0 : Byte).toNat) ∧
      (Heard 9 16 [0, 128] (sent 16 [0, 128] active) (taken active) ∧
        tableEntries (0 : Byte).toNat ≤ (128 : Byte).toNat) ∧
      (Heard 9 16 [10, 0] (sent 16 [10, 0] active) (taken active) ∧ 9 < (10 : Byte).toNat) ∧
      (Heard 9 17 [0] (sent 17 [0] active) (taken active) ∧ (0 : Byte).toNat < 1) ∧
      (Heard 9 17 [9] (sent 17 [9] active) (taken active) ∧ 8 < (9 : Byte).toNat) ∧
      (Heard 9 17 [8] (sent 17 [8] active) (taken active) ∧ 1 ≤ (8 : Byte).toNat ∧ (8 : Byte).toNat ≤ 8) ∧
      Heard 9 18 [] (sent 18 [] active) (taken active) :=
  ⟨⟨heardOn _ _ _ rfl rfl rfl, by decide⟩, ⟨heardOn _ _ _ rfl rfl rfl, by decide⟩,
    ⟨heardOn _ _ _ rfl rfl rfl, by decide⟩, ⟨heardOn _ _ _ rfl rfl rfl, by decide⟩,
    ⟨heardOn _ _ _ rfl rfl rfl, by decide⟩, ⟨heardOn _ _ _ rfl rfl rfl, by decide⟩,
    ⟨heardOn _ _ _ rfl rfl rfl, by decide, by decide⟩, heardOn _ _ _ rfl rfl rfl⟩

/-- A state with its pointer on an entry. -/
def pointed (table index : Nat) (s : State) : State := { s with pointer := { table := table, index := index } }

/-- The hypotheses of SlotMapWritten are met, clause by clause. -/
theorem witness_SlotMapWritten :
    Heard 9 20 [8] (sent 20 [8] (pointed 0 127 mapped)) (taken (pointed 0 127 mapped)) ∧
      (pointed 0 127 mapped).pointer = { table := 0, index := (127 : Fin 128).val } ∧
      (Heard 9 20 [8] (sent 20 [8] (pointed 5 0 mapped)) (taken (pointed 5 0 mapped)) ∧ (5 : Nat) ≤ 8) ∧
      (64 ≤ (64 : Byte).toNat ∧ (64 : Byte).toNat ≠ 255) ∧
      ((8 : Byte).toNat = (8 : SlotNo).val ∧ (0 : Fin 128) ≠ 127 ∧ mapped.slotMap[(0 : Fin 128)] = some 8) ∧
      ((63 : Byte).toNat = (63 : SlotNo).val ∧ ∀ j : Fin 128, j ≠ 127 → mapped.slotMap[j] ≠ some 63) ∧
      ((255 : Byte).toNat = 255 ∧ mapped.slotMap[(127 : Fin 128)] = none ∧ mapped.slotMap[(127 : Fin 128)] ≠ some 63) :=
  ⟨heardOn _ _ _ rfl rfl rfl, rfl, ⟨heardOn _ _ _ rfl rfl rfl, by decide⟩, by decide, by decide +kernel,
    by decide +kernel, by decide +kernel⟩

/-- The hypotheses of ProfileAndCurveWritten are met, clause by clause. -/
theorem witness_ProfileAndCurveWritten :
    let s := pointed 1 3 active
    let c := pointed 2 8 { active with curves := active.curves.set 9 { written := true, temperature := 200, factor := 900 } }
    (Heard 9 20 (profileForm profile) (sent 20 (profileForm profile) s) (taken s) ∧
        (profileForm profile).length = 25 ∧ s.pointer = { table := 1, index := (3 : Fin 4).val } ∧
        resultingProfile none Profile.invalid (profileForm profile) = profile ∧ 20000 ≤ profile.hardLow ∧
        profile.hardLow < profile.emptyMark ∧ profile.emptyMark < profile.fullMark ∧ profile.fullMark < profile.hardHigh ∧
        ¬ (1 ≤ ({ profile with restThreshold := 0 } : Profile).restThreshold) ∧
        ¬ profile.emptyMark < ({ profile with fullMark := 30000 } : Profile).fullMark) ∧
      (Heard 9 20 [0, 199, 1, 244] (sent 20 [0, 199, 1, 244] c) (taken c) ∧
        c.pointer = { table := 2, index := (8 : Fin 32).val } ∧ signedAt [0, 199, 1, 244] 0 2 = 199 ∧
        unsignedAt [0, 199, 1, 244] 2 2 = 500 ∧ (8 : Fin 32) < 9 ∧ (199 : Int) < c.curves[(9 : Fin 32)].temperature ∧
        ¬ (200 : Int) < c.curves[(9 : Fin 32)].temperature ∧ unsignedAt [0, 199, 1, 243] 2 2 < 500 ∧
        unsignedAt [0, 199, 0, 0] 2 2 = 0) :=
  ⟨⟨heardOn _ _ _ rfl rfl rfl, by decide +kernel⟩, heardOn _ _ _ rfl rfl rfl, by decide +kernel⟩

/-- A write form of a grade row with one TMAX criterion. -/
def rowForm (code count figure : Byte) : List Byte := [1, code, 15, count, figure, 3, 0, 7, 208] ++ List.replicate 15 0

/-- The hypotheses of GradeRowWritten are met, clause by clause. -/
theorem witness_GradeRowWritten :
    let s := pointed 3 15 active
    let w : State := { s with window := some { written := false, shadow := s.rows } }
    let c : State := { s with
      origin := some 0, store := { s.store with certified := s.store.certified.set 0 true } }
    (Heard 9 20 (rowForm 1 1 4) (sent 20 (rowForm 1 1 4) c) (taken c) ∧ tableCertified c = true) ∧
      (Heard 9 20 (rowForm 1 1 4) (sent 20 (rowForm 1 1 4) s) (taken s) ∧ tableCertified s = false ∧
        s.window = none) ∧
      (Heard 9 20 (rowForm 1 1 4) (sent 20 (rowForm 1 1 4) w) (taken w) ∧ (rowForm 1 1 4).length = 24 ∧
        w.pointer = { table := 3, index := (15 : Fin 16).val } ∧
        byteAt (rowForm 0 1 4) 1 < 1 ∧ 15 < byteAt (rowForm 16 1 4) 1 ∧
        4 < (resultingCriteria none GradeRow.empty (rowForm 1 5 4)).length ∧
        none ∈ resultingCriteria none GradeRow.empty (rowForm 1 1 6) ∧
        (resultingCriteria none GradeRow.empty (rowForm 1 4 4)).length = 4 ∧
        (resultingCriteria none GradeRow.empty (rowForm 15 1 4)).all (·.isSome) = true) :=
  ⟨⟨heardOn _ _ _ rfl rfl rfl, by decide +kernel⟩, ⟨heardOn _ _ _ rfl rfl rfl, by decide +kernel⟩,
    heardOn _ _ _ rfl rfl rfl, by decide +kernel⟩

/-- A write form of a string of the bank map at a first place. -/
def stringForm (kind first count : Byte) : List Byte := [1, 1, kind, first, count, 0, 6, 0, 50, 0, 0]

/-- The hypotheses of BankMapWritten are met, clause by clause. -/
theorem witness_BankMapWritten :
    let s := pointed 4 7 bank
    let r : State := { s with run := some (runOf .held bank) }
    let f := pointed 4 7 (told (.fix 9 [0, 0]) planned)
    let b := fun form => resultingString none s.bank[(7 : Fin 8)] form
    (Heard 9 20 (stringForm 0 60 4) (sent 20 (stringForm 0 60 4) s) (taken s) ∧ (stringForm 0 60 4).length = 11 ∧
        s.pointer = { table := 4, index := (7 : Fin 8).val } ∧ s.run = none) ∧
      (Heard 9 20 (stringForm 0 60 4) (sent 20 (stringForm 0 60 4) r) (taken r) ∧ r.run ≠ none) ∧
      (f.run = none ∧ f.places[(0 : PlaceNo)].fixed = true) ∧ (∀ p : PlaceNo, s.places[p].fixed = false) ∧
      ((b (stringForm 0 60 4)).first + (b (stringForm 0 60 4)).count ≤ 64 ∧
        64 < (b (stringForm 0 60 5)).first + (b (stringForm 0 60 5)).count) ∧
      ((b (stringForm 1 61 1)).kind = .paired ∧ (b (stringForm 1 61 1)).first % 2 = 1) ∧
      ((b (stringForm 0 6 1)).enabled = true ∧ s.bank[(1 : Fin 8)].first < 6 + 1 ∧ 6 < 4 + s.bank[(1 : Fin 8)].span ∧
        4 + s.bank[(1 : Fin 8)].span ≤ (b (stringForm 0 7 1)).first) :=
  ⟨⟨heardOn _ _ _ rfl rfl rfl, rfl, rfl, rfl⟩, ⟨heardOn _ _ _ rfl rfl rfl, nofun⟩, by decide +kernel,
    by decide +kernel, by decide +kernel, by decide +kernel, by decide +kernel⟩

/-- The hypotheses of SettingsWritten are met, clause by clause. -/
theorem witness_SettingsWritten :
    let s := pointed 9 0 active
    let form : List Byte := [5, 31, 31, 1, 244, 3, 0, 255]
    Heard 9 20 form (sent 20 form s) (taken s) ∧ form.length = 8 ∧ s.pointer.table = 9 ∧
      (5 ≤ byteAt form 0 ∧ byteAt form 2 ≤ 31 ∧ 500 ≤ unsignedAt form 3 2 ∧ unsignedAt form 3 2 ≤ 60000 ∧
        byteAt form 5 ≤ 3) ∧ ¬ byteAt [9] 0 ≤ 8 ∧ ¬ 5 ≤ byteAt [4] 0 :=
  ⟨heardOn _ _ _ rfl rfl rfl, by decide +kernel⟩

/-- The hypotheses of EditWindowDirectives are met, clause by clause. -/
theorem witness_EditWindowDirectives :
    let w : State := { active with window := some { written := false, shadow := active.rows } }
    let r : State := { active with run := some (runOf .held active) }
    let c : State := { active with
      origin := some 0, store := { active.store with certified := active.store.certified.set 0 true } }
    (Heard 9 21 [] (sent 21 [] w) (taken w) ∧ w.window ≠ none) ∧
      (Heard 9 21 [] (sent 21 [] r) (taken r) ∧ r.window = none ∧ r.run ≠ none) ∧
      (Heard 9 21 [] (sent 21 [] c) (taken c) ∧ c.window = none ∧ c.run = none ∧ tableCertified c = true) ∧
      (Heard 9 21 [] (sent 21 [] active) (taken active) ∧ tableCertified active = false) ∧
      (Heard 9 22 [] (sent 22 [] w) (taken w) ∧ Heard 9 22 [] (sent 22 [] active) (taken active)) ∧
      (Heard 9 23 [] (sent 23 [] w) (taken w) ∧ Heard 9 23 [] (sent 23 [] active) (taken active)) :=
  ⟨⟨heardOn _ _ _ rfl rfl rfl, nofun⟩, ⟨heardOn _ _ _ rfl rfl rfl, rfl, nofun⟩,
    ⟨heardOn _ _ _ rfl rfl rfl, rfl, rfl, by decide +kernel⟩, ⟨heardOn _ _ _ rfl rfl rfl, by decide +kernel⟩,
    ⟨heardOn _ _ _ rfl rfl rfl, heardOn _ _ _ rfl rfl rfl⟩, heardOn _ _ _ rfl rfl rfl, heardOn _ _ _ rfl rfl rfl⟩

/-- The hypotheses of AdmitByOrder are met, clause by clause. -/
theorem witness_AdmitByOrder :
    let name : List Byte := List.replicate 16 7
    let q := fun slot family cells : Byte => slot :: family :: cells :: 28 :: 232 :: name
    name.length = 16 ∧ (Heard 9 32 (q 64 1 12) (sent 32 (q 64 1 12) mapped) (taken mapped) ∧ 64 ≤ (64 : Byte).toNat) ∧
      (Heard 9 32 (q 3 1 12) (sent 32 (q 3 1 12) bank) (taken bank) ∧ (3 : Byte).toNat = (3 : SlotNo).val ∧
        bank.slots[(3 : SlotNo)] ≠ none) ∧
      (Heard 9 32 (q 63 4 12) (sent 32 (q 63 4 12) mapped) (taken mapped) ∧ mapped.slots[(63 : SlotNo)] = none ∧
        4 ≤ (4 : Byte).toNat) ∧
      (Heard 9 32 (q 63 3 12) (sent 32 (q 63 3 12) mapped) (taken mapped) ∧ (3 : Byte).toNat = (3 : Family).val ∧
        mapped.profiles[(3 : Family)].valid = false) ∧
      (Heard 9 32 (q 63 1 18) (sent 32 (q 63 1 18) mapped) (taken mapped) ∧
        mapped.profiles[(1 : Family)].valid = true ∧ (28 : Byte).toNat * 256 + (232 : Byte).toNat ≠ 0 ∧
        1 ≤ (18 : Byte).toNat ∧ (18 : Byte).toNat ≤ 24 ∧
        (18 : Byte).toNat * mapped.profiles[(1 : Family)].hardHigh ≤ 800000) ∧
      800000 < (19 : Byte).toNat * mapped.profiles[(1 : Family)].hardHigh ∧ (0 : Byte).toNat < 1 ∧ 24 < (25 : Byte).toNat ∧
      (0 : Byte).toNat * 256 + (0 : Byte).toNat = 0 :=
  ⟨rfl, ⟨heardOn _ _ _ rfl rfl rfl, by decide⟩, ⟨heardOn _ _ _ rfl rfl rfl, by decide +kernel⟩,
    ⟨heardOn _ _ _ rfl rfl rfl, by decide +kernel⟩, ⟨heardOn _ _ _ rfl rfl rfl, by decide +kernel⟩,
    ⟨heardOn _ _ _ rfl rfl rfl, by decide +kernel⟩, by decide +kernel⟩

/-- The hypotheses of WithdrawEffect are met, clause by clause. -/
theorem witness_WithdrawEffect :
    let r : State := { planned with run := some (runOf .held bank) }
    (Heard 9 33 [64] (sent 33 [64] planned) (taken planned) ∧ 64 ≤ (64 : Byte).toNat) ∧
      (Heard 9 33 [63] (sent 33 [63] planned) (taken planned) ∧ planned.slots[(63 : SlotNo)] = none) ∧
      (Heard 9 33 [3] (sent 33 [3] fixedBank) (taken fixedBank) ∧ fixedBank.slots[(3 : SlotNo)] ≠ none ∧
        inFixedPlace fixedBank 3 = true) ∧
      (Heard 9 33 [3] (sent 33 [3] r) (taken r) ∧ (3 : Byte).toNat = (3 : SlotNo).val ∧ r.slots[(3 : SlotNo)] ≠ none ∧
        inFixedPlace r 3 = false ∧ placeOf r 3 = some 0 ∧ ownerOf r.bank 0 = some (0, 0) ∧ r.run.isSome = true) ∧
      (placeOf planned 7 = none ∧ planned.slots[(7 : SlotNo)] ≠ none ∧ planned.run = none) :=
  ⟨⟨heardOn _ _ _ rfl rfl rfl, by decide⟩, ⟨heardOn _ _ _ rfl rfl rfl, by decide +kernel⟩,
    ⟨heardOn _ _ _ (by decide +kernel) (by decide +kernel) (by decide +kernel), by decide +kernel⟩,
    ⟨heardOn _ _ _ rfl rfl rfl, by decide +kernel⟩, by decide +kernel⟩

/-- The hypotheses of ClearFiguresEffect are met, clause by clause. -/
theorem witness_ClearFiguresEffect :
    (Heard 9 34 [64, 1] (sent 34 [64, 1] bank) (taken bank) ∧ 64 ≤ (64 : Byte).toNat) ∧
      (Heard 9 34 [3, 32] (sent 34 [3, 32] bank) (taken bank) ∧ ∀ k < 5, (32 : Byte).toNat.testBit k = false) ∧
      (Heard 9 34 [63, 16] (sent 34 [63, 16] bank) (taken bank) ∧ bank.slots[(63 : SlotNo)] = none ∧
        (16 : Byte).toNat.testBit 4 = true) ∧
      (Heard 9 34 [3, 31] (sent 34 [3, 31] bank) (taken bank) ∧ bank.slots[(3 : SlotNo)].isSome = true ∧
        (moduleOf .graded 1 7500 (some 7040)).state ≠ .admitted ∧
        (moduleOf .graded 1 7500 (some 7040)).isQuarantined = false) ∧
      (∀ k < 5, (224 : Byte).toNat.testBit k = false) ∧ (∃ k < 5, (225 : Byte).toNat.testBit k = true) :=
  ⟨⟨heardOn _ _ _ rfl rfl rfl, by decide⟩, ⟨heardOn _ _ _ rfl rfl rfl, by decide⟩,
    ⟨heardOn _ _ _ rfl rfl rfl, by decide +kernel⟩, ⟨heardOn _ _ _ rfl rfl rfl, by decide +kernel⟩, by decide⟩

/-- The hypotheses of PlanDirectives are met, clause by clause. -/
theorem witness_PlanDirectives :
    let h : State := { bank with run := some (runOf .held bank) }
    let r : State := { bank with run := some (runOf .running bank) }
    let w : State := { bank with window := some { written := false, shadow := bank.rows } }
    (Heard 9 48 [] (sent 48 [] h) (taken h) ∧ h.run ≠ none) ∧
      (Heard 9 48 [] (sent 48 [] w) (taken w) ∧ w.run = none ∧ w.window ≠ none) ∧
      (Heard 9 48 [] (sent 48 [] bank) (taken bank) ∧ bank.run = none ∧ bank.window = none) ∧
      (Heard 9 49 [] (sent 49 [] r) (taken r) ∧ (runOf .running bank).mode = .running) ∧
      (Heard 9 49 [] (sent 49 [] h) (taken h) ∧ ∀ x, h.run = some x → x.mode = .held) ∧
      (Heard 9 50 [] (sent 50 [] h) (taken h) ∧ (runOf .held bank).mode = .held) ∧
      (Heard 9 50 [] (sent 50 [] r) (taken r) ∧ ∀ x, r.run = some x → x.mode = .running) ∧
      (Heard 9 51 [] (sent 51 [] bank) (taken bank) ∧ Heard 9 51 [] (sent 51 [] h) (taken h)) :=
  ⟨⟨heardOn _ _ _ rfl rfl rfl, nofun⟩, ⟨heardOn _ _ _ rfl rfl rfl, rfl, nofun⟩,
    ⟨heardOn _ _ _ rfl rfl rfl, rfl, rfl⟩, ⟨heardOn _ _ _ rfl rfl rfl, rfl⟩,
    ⟨heardOn _ _ _ rfl rfl rfl, fun x h => by cases h; rfl⟩, ⟨heardOn _ _ _ rfl rfl rfl, rfl⟩,
    ⟨heardOn _ _ _ rfl rfl rfl, fun x h => by cases h; rfl⟩, heardOn _ _ _ rfl rfl rfl, heardOn _ _ _ rfl rfl rfl⟩

/-- The hypotheses of OpeningAndFilling are met, clause by clause. -/
theorem witness_OpeningAndFilling :
    let r := runOf .running bank
    let done : PlanningRun := { r with lastProcessed := some 0 }
    let c : CurrentString := { string := 0, fixedReference := none, reference := none, toFill := [0, 1], choices := [] }
    let last : CurrentString := { c with toFill := [1], reference := some 14880 }
    r.mode = .running ∧ r.current = none ∧ bank.bank[(0 : StringNo)].enabled = true ∧ r.lastProcessed = none ∧
      (∀ l, done.lastProcessed = some l → l < 1) ∧
      (∀ j : StringNo, j < 1 → bank.bank[j].enabled = true → ∃ l, done.lastProcessed = some l ∧ j ≤ l) ∧
      (List.range bank.bank[(0 : StringNo)].count).filter (fun pos => !positionFixed bank 0 pos) ≠ [] ∧
      (List.range (bank.bank.set 0 (bankString .paired 0 1 6 50 500))[(0 : StringNo)].count).filter (fun pos =>
        !positionFixed { fixedBank with bank := bank.bank.set 0 (bankString .paired 0 1 6 50 500) } 0 pos) = [] ∧
      { r with current := some c }.current = some c ∧ c.toFill = 0 :: [1] ∧ last.toFill = 1 :: [] ∧
      chooseFor bank.bank[(0 : StringNo)] none r.candidates = some ([3, 9], 14880) ∧
      chooseFor bank.bank[(0 : StringNo)] (some 14880) (markTaken [3, 9] true r.candidates) = none ∧
      (bank.bank[(1 : StringNo)].kind = .single ∧ (6 : PlaceNo).val = bank.bank[(1 : StringNo)].first + 2) ∧
      (bank.bank[(0 : StringNo)].kind = .paired ∧ (2 : PlaceNo).val = bank.bank[(0 : StringNo)].first + 2 * 1 ∧
        (3 : PlaceNo).val = (2 : PlaceNo).val + 1) ∧
      positionKey planned 0 0 = some 14880 ∧ fixedReference fixedBank 0 = some 14880 := by
  refine ⟨rfl, rfl, by decide +kernel, rfl, fun l h => by cases h; decide, by decide +kernel, ?_⟩
  decide +kernel

/-- The hypotheses of ChoiceIsGreedy are met, clause by clause. -/
theorem witness_ChoiceIsGreedy :
    (bankString .single 4 3 12 30 0).kind = .single ∧ (bankString .paired 0 2 6 50 500).kind = .paired :=
  ⟨rfl, rfl⟩

/-- The hypotheses of CompletionEndsRun are met, clause by clause. -/
theorem witness_CompletionEndsRun :
    let e : TentativeEntry :=
      { string := 0, planned := true, reference := some 14880, choices := [{ position := 0, slots := [3, 9] }] }
    let r : PlanningRun := { runOf .running bank with tentative := [e], lastProcessed := some 7, disturbed := false }
    r.mode = .running ∧ r.current = none ∧
      (∀ j : StringNo, bank.bank[j].enabled = true → ∃ l, r.lastProcessed = some l ∧ j ≤ l) ∧
      { r with disturbed := true }.disturbed = true ∧ r.budget = 0 ∧ { r with budget := 3 }.budget ≠ 0 ∧
      r.disturbed = false ∧ r.tentative = [] ++ e :: [] ∧ (∀ x ∈ r.tentative, x.string ≠ 1) ∧
      (bank.bank[(0 : StringNo)].placesOf 0)[1]? = some 1 ∧ ([3, 9] : List SlotNo)[1]? = some 9 ∧
      (63 : PlaceNo) ∉ bank.bank[(0 : StringNo)].placesOf 0 ∧
      (positionFixed bank 0 1 = false ∧ (2 : PlaceNo) ∈ bank.bank[(0 : StringNo)].placesOf 1 ∧
        (2 : PlaceNo) ∉ bank.bank[(0 : StringNo)].placesOf 0) ∧
      (∀ pos, pos < 2 → (63 : PlaceNo) ∈ bank.bank[(0 : StringNo)].placesOf pos → positionFixed bank 0 pos = true) := by
  refine ⟨rfl, rfl, fun j _ => ⟨7, rfl, Fin.le_last j⟩, rfl, rfl, nofun, rfl, rfl, ?_⟩
  decide +kernel

/-- The hypotheses of FixAndUnfix are met, clause by clause. -/
theorem witness_FixAndUnfix :
    let run := runOf .running planned
    let r : State := { planned with run := some run }
    let cur : State := { planned with run := some { runOf .held planned with
      current := some { string := 0, fixedReference := none, reference := none, toFill := [0], choices := [] } } }
    let h : State := { planned with run := some (runOf .held planned) }
    let off : State := { planned with bank := planned.bank.set 0 BankString.default }
    (Heard 9 52 [8, 0] (sent 52 [8, 0] planned) (taken planned) ∧ 8 ≤ (8 : Byte).toNat) ∧
      (Heard 9 53 [7, 1] (sent 53 [7, 1] planned) (taken planned) ∧ (7 : Byte).toNat = (7 : StringNo).val ∧
        planned.bank[(7 : StringNo)].count ≤ (1 : Byte).toNat) ∧
      (Heard 9 52 [0, 0] (sent 52 [0, 0] off) (taken off) ∧ off.bank[(0 : StringNo)].enabled = false ∧
        (0 : Byte).toNat < off.bank[(0 : StringNo)].count) ∧
      (Heard 9 52 [0, 0] (sent 52 [0, 0] r) (taken r) ∧ r.run = some run ∧ run.mode = .running) ∧
      (Heard 9 53 [0, 0] (sent 53 [0, 0] cur) (taken cur) ∧ cur.run.isSome = true) ∧
      (Heard 9 52 [0, 1] (sent 52 [0, 1] h) (taken h) ∧ positionFixed h 0 1 = false ∧ positionFilled h 0 1 = false ∧
        (1 : Byte).toNat < h.bank[(0 : StringNo)].count) ∧
      (Heard 9 52 [0, 0] (sent 52 [0, 0] h) (taken h) ∧ positionFixed h 0 0 = false ∧ positionFilled h 0 0 = true ∧
        ∀ x, h.run = some x → x.mode = .held ∧ ∀ c, x.current = some c → c.string ≠ 0) ∧
      (Heard 9 53 [0, 0] (sent 53 [0, 0] fixedBank) (taken fixedBank) ∧ positionFixed fixedBank 0 0 = true ∧
        fixedBank.run = none) ∧ positionFixed planned 0 0 ≠ true ∧ positionFixed fixedBank 0 0 ≠ false ∧
      (bank.bank[(1 : StringNo)].kind = .single ∧ (6 : PlaceNo).val = bank.bank[(1 : StringNo)].first + 2) ∧
      (bank.bank[(0 : StringNo)].kind = .paired ∧ (2 : PlaceNo).val = bank.bank[(0 : StringNo)].first + 2 * 1 ∧
        (3 : PlaceNo).val = (2 : PlaceNo).val + 1) ∧
      (placeOf planned 3 = some 0 ∧ placeOf planned 7 = none ∧ planned.places[(0 : PlaceNo)].fixed = false ∧
        ownerOf planned.bank 0 = some (0, 0) ∧ planned.bank[(0 : StringNo)].gradeMask.getLsbD 1 = true ∧
        planned.bank[(0 : StringNo)].gradeMask.getLsbD 3 = false) ∧
      (moduleOf .graded 1 0 none).state = .graded ∧
      (moduleOf (.installed 1 true) 0 0 none).state = .installed 1 true ∧
      (moduleOf (.quarantined .lowVoltage (some 1)) 15 0 none).state = .quarantined .lowVoltage (some 1) := by
  refine ⟨⟨heardOn _ _ _ rfl rfl rfl, by decide⟩, ⟨heardOn _ _ _ rfl rfl rfl, by decide +kernel⟩,
    ⟨heardOn _ _ _ rfl rfl rfl, by decide +kernel⟩, ⟨heardOn _ _ _ rfl rfl rfl, rfl, rfl⟩,
    ⟨heardOn _ _ _ rfl rfl rfl, rfl⟩, ⟨heardOn _ _ _ rfl rfl rfl, by decide +kernel⟩,
    ⟨heardOn _ _ _ rfl rfl rfl, by decide +kernel, by decide +kernel, fun x hx => ?_⟩,
    ⟨heardOn _ _ _ (by decide +kernel) (by decide +kernel) (by decide +kernel), by decide +kernel⟩, by decide +kernel⟩
  cases hx
  exact ⟨rfl, nofun⟩

/-- The bank map that FixAndUnfix names the owners of is met by the bank of the planning run, with a place of a single
string, the second place of a paired position and a place that no string owns. -/
theorem witness_FixAndUnfix_owners :
    BankSound bank.bank ∧ ownerOf bank.bank 6 = some (1, 2) ∧ ownerOf bank.bank 3 = some (0, 1) ∧
      ownerOf bank.bank 7 = none :=
  ⟨⟨by decide +kernel, by decide +kernel⟩, by decide +kernel⟩

/-- The hypotheses of FixAllAndUnfixAll are met, clause by clause. -/
theorem witness_FixAllAndUnfixAll :
    let h : State := { planned with run := some (runOf .held planned) }
    (h.run ≠ none ∧ Heard 9 54 [] (sent 54 [] h) (taken h) ∧ Heard 9 55 [] (sent 55 [] h) (taken h)) ∧
      (planned.run = none ∧ Heard 9 54 [] (sent 54 [] planned) (taken planned)) ∧
      (fixedBank.run = none ∧ Heard 9 55 [] (sent 55 [] fixedBank) (taken fixedBank)) :=
  ⟨⟨nofun, heardOn _ _ _ rfl rfl rfl, heardOn _ _ _ rfl rfl rfl⟩, ⟨rfl, heardOn _ _ _ rfl rfl rfl⟩,
    by decide +kernel, heardOn _ _ _ (by decide +kernel) (by decide +kernel) (by decide +kernel)⟩

/-- The hypotheses of SaveAndCompletion are met, clause by clause. -/
theorem witness_SaveAndCompletion :
    let l : State := { active with latch := true }
    let c : State := { l with store := { l.store with certified := l.store.certified.set 3 true } }
    let b : State := { l with storeWork := some (.certify 0) }
    let w : State := { l with window := some { written := false, shadow := l.rows } }
    (Heard 9 66 [10] (sent 66 [10] l) (taken l) ∧ 9 < (10 : Byte).toNat) ∧
      (Heard 9 66 [9] (sent 66 [9] active) (taken active) ∧ (9 : Byte).toNat ≤ 9 ∧ active.latch = false) ∧
      (Heard 9 66 [8] (sent 66 [8] c) (taken c) ∧ (8 : Byte).toNat = (3 : GradeImage).val + 5 ∧ c.latch = true ∧
        c.store.certified[(3 : GradeImage)] = true ∧ (0 : Byte).toNat = 0) ∧
      (Heard 9 66 [1] (sent 66 [1] b) (taken b) ∧ b.latch = true ∧ b.storeWork ≠ none ∧
        ¬ ((1 : Byte).toNat = 0 ∨ ∃ g : GradeImage, (1 : Byte).toNat = g.val + 5 ∧ b.store.certified[g] = true)) ∧
      (Heard 9 66 [5] (sent 66 [5] w) (taken w) ∧ 5 ≤ (5 : Byte).toNat ∧ (5 : Byte).toNat ≤ 8 ∧ w.window ≠ none ∧
        w.storeWork = none) ∧
      (Heard 9 66 [9] (sent 66 [9] l) (taken l) ∧ l.latch = true ∧ l.storeWork = none) ∧
      { active with storeWork := some (.save (.slotMap mapped.slotMap)) }.storeWork =
        some (.save (.slotMap mapped.slotMap)) := by
  refine ⟨⟨heardOn _ _ _ rfl rfl rfl, by decide⟩, ⟨heardOn _ _ _ rfl rfl rfl, by decide, rfl⟩,
    ⟨heardOn _ _ _ rfl rfl rfl, by decide +kernel⟩, ⟨heardOn _ _ _ rfl rfl rfl, rfl, nofun, by decide +kernel⟩,
    ⟨heardOn _ _ _ rfl rfl rfl, by decide, by decide, nofun, rfl⟩, ⟨heardOn _ _ _ rfl rfl rfl, rfl, rfl⟩, rfl⟩

/-- An ACTIVE engine with images 1 to 4 and 5 valid. -/
def loadable : State := { bank with store := imaged.store }

/-- The hypotheses of LoadByOrder are met, clause by clause. -/
theorem witness_LoadByOrder :
    let b : State := { loadable with storeWork := some (.certify 0) }
    let r : State := { loadable with run := some (runOf .held bank) }
    let w : State := { loadable with window := some { written := false, shadow := loadable.rows } }
    let f : State := { loadable with places := fixedBank.places }
    (Heard 9 67 [0] (sent 67 [0] loadable) (taken loadable) ∧ (0 : Byte).toNat < 1 ∧ 8 < (9 : Byte).toNat) ∧
      (Heard 9 67 [8] (sent 67 [8] b) (taken b) ∧ (8 : Byte).toNat ≤ 8 ∧ b.storeWork ≠ none) ∧
      (Heard 9 67 [8] (sent 67 [8] loadable) (taken loadable) ∧
        ¬ (validMarks loadable.store).getLsbD (8 : Byte).toNat = true) ∧
      (Heard 9 67 [4] (sent 67 [4] r) (taken r) ∧ (validMarks r.store).getLsbD (4 : Byte).toNat = true ∧ r.run.isSome) ∧
      (Heard 9 67 [5] (sent 67 [5] w) (taken w) ∧ (validMarks w.store).getLsbD (5 : Byte).toNat = true ∧
        w.run.isNone ∧ w.window.isSome) ∧
      (Heard 9 67 [4] (sent 67 [4] f) (taken f) ∧ f.run.isNone ∧ f.places[(0 : PlaceNo)].fixed = true) ∧
      (loadable.storeWork.isNone ∧ loadable.run.isNone ∧ loadable.window.isNone ∧
        (∀ p : PlaceNo, loadable.places[p].fixed = false) ∧ loadable.store.settings.isSome ∧
        loadable.store.profiles.isSome ∧ loadable.store.slotMap.isSome ∧ loadable.store.bank.isSome ∧
        loadable.store.grades[(0 : GradeImage)].isSome ∧ (5 : Byte).toNat = (0 : GradeImage).val + 5) := by
  refine ⟨⟨heardOn _ _ _ rfl rfl rfl, by decide, by decide⟩, ⟨heardOn _ _ _ rfl rfl rfl, by decide, nofun⟩,
    ⟨heardOn _ _ _ rfl rfl rfl, by decide +kernel⟩, ⟨heardOn _ _ _ rfl rfl rfl, by decide +kernel⟩,
    ⟨heardOn _ _ _ rfl rfl rfl, by decide +kernel⟩, ⟨heardOn _ _ _ rfl rfl rfl, by decide +kernel⟩,
    by decide +kernel⟩

/-- The hypotheses of CertifyAndCompletion are met, clause by clause. -/
theorem witness_CertifyAndCompletion :
    let l : State := { loadable with latch := true }
    let b : State := { l with storeWork := some (.save (.settings Settings.default)) }
    (Heard 9 68 [5] (sent 68 [5] loadable) (taken loadable) ∧ loadable.latch = false) ∧
      (Heard 9 68 [0] (sent 68 [0] l) (taken l) ∧ l.latch = true ∧ (0 : Byte).toNat = 0) ∧
      (Heard 9 68 [4] (sent 68 [4] l) (taken l) ∧ (4 : Byte).toNat ≠ 0 ∧ (4 : Byte).toNat < 5 ∧ 8 < (9 : Byte).toNat) ∧
      (Heard 9 68 [8] (sent 68 [8] b) (taken b) ∧ (8 : Byte).toNat = (3 : GradeImage).val + 5 ∧ b.storeWork.isSome) ∧
      (Heard 9 68 [8] (sent 68 [8] l) (taken l) ∧ l.storeWork.isNone ∧ l.store.grades[(3 : GradeImage)].isNone) ∧
      (Heard 9 68 [5] (sent 68 [5] l) (taken l) ∧ (5 : Byte).toNat = (0 : GradeImage).val + 5 ∧
        l.store.grades[(0 : GradeImage)].isSome) ∧
      { active with storeWork := some (.certify 3) }.storeWork = some (.certify 3) := by
  refine ⟨⟨heardOn _ _ _ rfl rfl rfl, rfl⟩, ⟨heardOn _ _ _ rfl rfl rfl, rfl, rfl⟩,
    ⟨heardOn _ _ _ rfl rfl rfl, by decide⟩, ⟨heardOn _ _ _ rfl rfl rfl, by decide +kernel⟩,
    ⟨heardOn _ _ _ rfl rfl rfl, by decide +kernel⟩, ⟨heardOn _ _ _ rfl rfl rfl, by decide +kernel⟩, rfl⟩

/-- The hypotheses of QueuesStayBounded are met, clause by clause. -/
theorem witness_QueuesStayBounded :
    let s : State := { active with
      pending := [.upPortArrival [1]]
      upQueue := List.replicate 8 [1]
      dnQueue := List.replicate 4 [1]
      directiveQueue := List.replicate 4 { tag := 0, payload := [] }
      reports := [.store .save 1, .silent 1 1, .grade 3 0 1 none, .grade 4 0 1 none]
      arbiterCount := 2
      patternCount := 3 }
    QueuesBounded s ∧ ∃ t, step s = .next t :=
  ⟨⟨by decide, by decide, by decide, by decide, by decide, by decide, by decide,
    by simp [active, State.reset, Counters.zero, Counters.bounded], by decide +kernel, by decide⟩, ⟨_, rfl⟩⟩

/-- The hypotheses of RunAndWindowStayApart are met, clause by clause. -/
theorem witness_RunAndWindowStayApart :
    let s : State := { bank with pending := [.opening], run := some (runOf .running bank) }
    RunWindowApart s ∧ s.run ≠ none ∧ ∃ t, step s = .next t :=
  ⟨fun _ => rfl, nofun, ⟨_, rfl⟩⟩

/-- The hypotheses of SlotMapsStayInjective are met, clause by clause. -/
theorem witness_SlotMapsStayInjective :
    let s : State := { active with pending := [.saveCompletion], storeWork := some (.save (.slotMap mapped.slotMap)) }
    SlotMapsInjective s ∧ ∃ t, step s = .next t := by
  have one : ∀ k : Fin 128, k ≠ 0 → mapped.slotMap[k] = none := by decide +kernel
  have inj : mapInjective mapped.slotMap := fun a b i ha hb => by
    have h : ∀ k : Fin 128, mapped.slotMap[k] = some i → k = 0 := fun k hk =>
      Decidable.byContradiction fun hne => by rw [one k hne] at hk; cases hk
    rw [h a ha, h b hb]
  refine ⟨⟨fun a b i ha _ => ?_, nofun, fun c hc => by cases hc; exact inj⟩, ⟨_, rfl⟩⟩
  have : ∀ k : Fin 128, active.slotMap[k] = none := by decide +kernel
  have ha : active.slotMap[a] = some i := ha
  rw [this a] at ha
  cases ha

/-- A working table loaded from a certified image, which is in the store. -/
def certifiedState : State :=
  { active with
    origin := some 0
    store := { active.store with
      grades := active.store.grades.set 0 (some active.rows)
      certified := active.store.certified.set 0 true } }

/-- The hypotheses of CertifiedTableHoldsImage are met, clause by clause. -/
theorem witness_CertifiedTableHoldsImage : CertifiedSound certifiedState ∧ tableCertified certifiedState = true := by
  refine ⟨⟨nofun, fun g rows hg _ hr => ?_, nofun, nofun, by decide +kernel⟩, by decide +kernel⟩
  cases hg
  exact (Option.some.inj hr).symm

/-- The hypotheses of CertifiedImageKept are met, clause by clause. -/
theorem witness_CertifiedImageKept :
    CertifiedSound certifiedState ∧ certifiedState.store.certified[(0 : GradeImage)] = true ∧
      ∃ t, step certifiedState = .next t :=
  ⟨witness_CertifiedTableHoldsImage.1, by decide +kernel, ⟨_, rfl⟩⟩

/-- The hypotheses of FiguresStayInRange are met, clause by clause. -/
theorem witness_FiguresStayInRange :
    let full : Figures :=
      { cap := some { value := 65535, clipped := true, saturated := true }
        soh := some { value := 1500, saturated := true }
        rdc := some { value := 65535, saturated := true }
        sdr := some { value := 65535, saturated := true }
        tmax := some 1250
        steps := List.replicate 4 { value := 65535, saturated := true } }
    let s : State := { active with
      pending := [.editClose 9 []]
      slots := active.slots.set 63 (some { moduleOf .graded 1 0 none with figures := full, completedRuns := 255 }) }
    FiguresInRange s ∧ ∃ t, step s = .next t := by
  intro full s
  have hf : full.inRange := by constructor <;> simp [full]
  have other : ∀ i : SlotNo, i ≠ 63 → s.slots[i] = none := by decide +kernel
  refine ⟨⟨fun i m h => ?_, nofun, nofun⟩, ⟨_, rfl⟩⟩
  by_cases hi : i = 63
  · subst hi
    have h : some { moduleOf .graded 1 0 none with figures := full, completedRuns := 255 } = some m := h
    cases h
    exact ⟨hf, le_rfl⟩
  · rw [other i hi] at h
    cases h

/-- String 0 with its one position filled by slots 3 and 9, PLANNED, and a FIX of that position in front. -/
def consistent : State :=
  { sent 52 [0, 0] planned with
    pending := [.fix 9 [0, 0]]
    bank := planned.bank.set 0 (bankString .paired 0 1 6 50 500) }

/-- The hypotheses of PlacesStayConsistent are met by a state with a planned string. -/
theorem witness_PlacesStayConsistent : PlacesSound consistent ∧ ∃ t, step consistent = .next t := by
  have places : ∀ p : PlaceNo, consistent.places[p] =
      if p = 0 then { slot := some 3, fixed := false, alarm := false }
      else if p = 1 then { slot := some 9, fixed := false, alarm := false } else Place.empty := by decide +kernel
  have loose : ∀ p : PlaceNo, consistent.places[p].fixed = false ∧ consistent.places[p].alarm = false := by
    decide +kernel
  have owner : ∀ p : PlaceNo, (p = 0 ∨ p = 1 → ownerOf consistent.bank p = some (0, 0)) ∧
      (∀ o, ownerOf consistent.bank p = some o →
        consistent.places[p].slot.isSome = decide (o = (0, 0))) := by decide +kernel
  have held : ∀ (p : PlaceNo) (i : SlotNo), consistent.places[p].slot = some i → (p = 0 ∧ i = 3) ∨ p = 1 ∧ i = 9 :=
    fun p i h => by
      rw [places p] at h
      split at h
      · cases h; exact .inl ⟨‹_›, rfl⟩
      · split at h
        · cases h; exact .inr ⟨‹_›, rfl⟩
        · cases h
  have states : ∀ i : SlotNo, consistent.slots[i].all (fun m => m.state == .graded) = true := by decide +kernel
  have bank : BankSound consistent.bank := ⟨by decide +kernel, by decide +kernel⟩
  have records : ∀ i : StringNo, consistent.records[i].state = .planned → i = 0 := by decide +kernel
  refine ⟨⟨⟨bank, nofun, nofun, nofun, nofun⟩, fun p q i hp hq => ?_, fun p h => ?_, fun string pos p q hp hq => ?_,
    fun p h => ?_, fun string pos p i ho hi _ => ?_, fun i m g d hm hd => ?_, fun p => ?_, fun i hi => ?_, nofun⟩, ⟨_, rfl⟩⟩
  · rcases held p i hp with ⟨rfl, rfl⟩ | ⟨rfl, rfl⟩ <;> rcases held q _ hq with ⟨rfl, h⟩ | ⟨rfl, h⟩ <;>
      first | rfl | cases h
  · rcases h with h | h
    · obtain ⟨i, hi⟩ := Option.ne_none_iff_exists'.1 h
      rcases held p i hi with ⟨rfl, -⟩ | ⟨rfl, -⟩ <;> exact ⟨0, 0, by decide +kernel, by decide +kernel, by decide +kernel⟩
    · rw [(loose p).1] at h; cases h
  · refine ⟨by rw [(loose p).1, (loose q).1], ?_⟩
    rw [(owner p).2 _ (hp.ownerOf bank), (owner q).2 _ (hq.ownerOf bank)]
  · rw [(loose p).1] at h; cases h
  · have ho := ho.ownerOf bank
    have hp : p = 0 ∨ p = 1 := (held p i hi).imp And.left And.left
    rw [(owner p).1 hp] at ho
    cases ho
    rcases held p i hi with ⟨-, rfl⟩ | ⟨-, rfl⟩ <;> exact ⟨_, rfl, rfl, by decide +kernel⟩
  · have := states i
    rw [hm, Option.all_some, hd] at this
    cases this
  · rw [(loose p).1, (loose p).2]
    simp
  · obtain rfl := records i hi
    refine ⟨by decide +kernel, fun pos p ho h => ?_⟩
    have e := (owner p).2 _ (ho.ownerOf bank)
    have : pos = 0 := Nat.lt_one_iff.1 ho.2.1
    rw [h, this] at e
    cases e

end Sys2Proof.Tests
end

section
/-! SUPPORT. ADMIT (R12): how the rule answers for each slot and family byte, and the proof of O41. -/

namespace Sys2Proof.Machine

/-! ## The rule of ADMIT, condition by condition -/

/-- Condition 1 of R12: a byte that names no slot. -/
theorem admitRule_of_no_slot {params : List Byte} (s : State) (h : 64 ≤ byteAt params 0) :
    admitRule params s = refuse .range s := dif_neg (Nat.not_lt.2 h)

/-- Condition 2 of R12: a slot that is not VACANT. -/
theorem admitRule_of_occupied {params : List Byte} {i : SlotNo} {s : State} (hi : byteAt params 0 = i.val)
    (hs : s.slots[i] ≠ none) : admitRule params s = refuse .state s := by
  have hlt : byteAt params 0 < 64 := hi ▸ i.isLt
  obtain rfl : (⟨byteAt params 0, hlt⟩ : SlotNo) = i := Fin.ext hi
  have hsome : s.slots[byteAt params 0].isSome = true := Option.isSome_iff_ne_none.2 hs
  rw [admitRule, dif_pos hlt, if_pos hsome]

/-- A VACANT slot leaves the outcome to the conditions on the family. -/
theorem admitRule_of_vacant {params : List Byte} {i : SlotNo} {s : State} (hi : byteAt params 0 = i.val)
    (hs : s.slots[i] = none) : admitRule params s = admitTo i params s := by
  have hlt : byteAt params 0 < 64 := hi ▸ i.isLt
  obtain rfl : (⟨byteAt params 0, hlt⟩ : SlotNo) = i := Fin.ext hi
  have hnone : ¬ s.slots[byteAt params 0].isSome = true := Option.not_isSome_iff_eq_none.2 hs
  rw [admitRule, dif_pos hlt, if_neg hnone]

/-- Condition 3 of R12: a byte that names no family. -/
theorem admitTo_of_no_family {params : List Byte} (i : SlotNo) (s : State) (h : 4 ≤ byteAt params 1) :
    admitTo i params s = refuse .range s := dif_neg (Nat.not_lt.2 h)

/-- Conditions 4 to 7 of R12, of which the last three share the outcome RANGE, and the admission. -/
theorem admitTo_of_family {params : List Byte} {f : Family} (i : SlotNo) (s : State) (hf : byteAt params 1 = f.val) :
    admitTo i params s =
      if s.profiles[f].valid = false then refuse .profile s
      else if unsignedAt params 3 2 = 0 ∨ byteAt params 2 < 1 ∨ 24 < byteAt params 2 ∨
          800000 < byteAt params 2 * s.profiles[f].hardHigh then refuse .range s
      else accept (setSlot i (some (admittedRecord ((params.drop 5).take 16) f (byteAt params 2)
        (unsignedAt params 3 2))) s) := by
  have hlt : byteAt params 1 < 4 := hf ▸ f.isLt
  obtain rfl : (⟨byteAt params 1, hlt⟩ : Family) = f := Fin.ext hf
  rw [admitTo, dif_pos hlt]
  simp only [← or_assoc, ite_or]

/-! ## The fields of the parameters of ADMIT (spec/12) -/

/-- The rated capacity stands in bytes 3 and 4. -/
theorem unsignedAt_rated (slot family cells r1 r0 : Byte) (name : List Byte) :
    unsignedAt (slot :: family :: cells :: r1 :: r0 :: name) 3 2 = r1.toNat * 256 + r0.toNat := by
  simp [unsignedAt]

/-- The module tag is the 16 bytes from byte 5. -/
theorem take_moduleTag (slot family cells r1 r0 : Byte) {name : List Byte} (h : name.length = 16) :
    ((slot :: family :: cells :: r1 :: r0 :: name).drop 5).take 16 = name :=
  List.take_of_length_le h.le

/-! ## The answer of ADMIT -/

/-- ADMIT of its 21 bytes, taken while ACTIVE, is answered by its rule. -/
theorem execAdmit_heard {tag : Byte} {params : List Byte} {s t : State} (h : Heard tag 32 params s t)
    (hl : params.length = 21) :
    exec (.admitModule tag params) s = .next (answered tag 32 (admitRule params t).outcome (admitRule params t).data
      (admitRule params t).state) := by
  change Host.Outcome.next (runDirective tag 32 params false (admitRule params) s) = _
  rw [runDirective_heard false _ h fun n hn => by cases hn; exact hl]

/-- Settles O41: the conditions of R12 in their order, each read in the state once the directive is taken, which has the
slots and the profiles of the state before. -/
theorem admitByOrder : Obligations.AdmitByOrder := by
  intro tag slot family cells r1 r0 name s t hname params rated heard
  have hslots : t.slots = s.slots := by rw [heard.1.fields]
  have hprofiles : t.profiles = s.profiles := by rw [heard.1.fields]
  have hrated : unsignedAt params 3 2 = rated := unsignedAt_rated ..
  have htag : (params.drop 5).take 16 = name := take_moduleTag _ _ _ _ _ hname
  have hcells : byteAt params 2 = cells.toNat := rfl
  rw [execAdmit_heard heard (by simp [params, hname]), ← hslots, ← hprofiles]
  refine ⟨fun (hi : 64 ≤ byteAt params 0) => ?noSlot, fun i (hi : byteAt params 0 = i.val) =>
    ⟨fun hs => ?occupied, fun hs (hf : 4 ≤ byteAt params 1) => ?noFamily,
      fun f (hf : byteAt params 1 = f.val) hs => ?family⟩⟩
  case noSlot => rw [admitRule_of_no_slot t hi]; rfl
  case occupied => rw [admitRule_of_occupied hi hs]; rfl
  case noFamily => rw [admitRule_of_vacant hi hs, admitTo_of_no_family i t hf]; rfl
  case family =>
    rw [admitRule_of_vacant hi hs, admitTo_of_family i t hf, hrated, hcells, htag]
    refine ⟨fun hv => ?invalid, fun hv => ⟨fun hbad => ?outOfRange, fun hr h1 h24 hhigh => ?admitted⟩⟩
    case invalid => rw [if_pos hv]; rfl
    case outOfRange => rw [if_neg (ne_false_of_eq_true hv), if_pos hbad]; rfl
    case admitted =>
      have hgood : ¬ (rated = 0 ∨ cells.toNat < 1 ∨ 24 < cells.toNat ∨
          800000 < cells.toNat * t.profiles[f].hardHigh) := by omega
      rw [if_neg (ne_false_of_eq_true hv), if_neg hgood]; rfl

end Sys2Proof.Machine
end

section
/-! SUPPORT. The roundings of the figure unit (spec/00, Rounding) and the correction curve (R53, R57, R58): what the quotients
and the factor lookup give, and the proof of O22. -/

namespace Sys2Proof.Machine

/-! ## Rounding (spec/00, Rounding) -/

/-- Rounding half up picks the integer whose half-open interval of width 1 around it holds the quotient. -/
theorem roundHalfUp_nearest (n : Nat) {d : Nat} (hd : 0 < d) :
    2 * d * roundHalfUp n d ≤ 2 * n + d ∧ 2 * n + d < 2 * d * (roundHalfUp n d + 1) :=
  ⟨Nat.mul_div_le _ _, Nat.lt_mul_div_succ _ (by omega)⟩

/-- A quotient of at most an integer does not round above it. -/
theorem roundHalfUp_le_of_le_mul {n m d : Nat} (hd : 0 < d) (h : n ≤ m * d) : roundHalfUp n d ≤ m := by
  have below : 2 * n + d < 2 * d * (m + 1) := by linarith
  exact Nat.lt_succ_iff.1 (Nat.div_lt_of_lt_mul below)

@[simp] theorem roundHalfUp_zero (d : Nat) : roundHalfUp 0 d = 0 := by
  rcases Nat.eq_zero_or_pos d with rfl | hd
  · rfl
  · exact Nat.le_zero.1 (roundHalfUp_le_of_le_mul hd (by omega))

/-- A quotient that is not negative is rounded half up. -/
@[simp] theorem roundHalfAway_natCast (n d : Nat) : roundHalfAway n d = roundHalfUp n d :=
  if_neg (by omega)

/-- The signed rounding treats both signs alike, ties included. -/
theorem roundHalfAway_neg (n : Int) (d : Nat) : roundHalfAway (-n) d = -roundHalfAway n d := by
  rcases lt_trichotomy n 0 with hn | rfl | hn
  · rw [roundHalfAway, roundHalfAway, if_neg (by omega), if_pos hn, Int.natAbs_neg, neg_neg]
  · simp [roundHalfAway]
  · rw [roundHalfAway, roundHalfAway, if_pos (by omega), if_neg (by omega), Int.natAbs_neg]

/-- Of a quotient that is not negative, the signed rounding is the nearest integer, ties upwards. -/
theorem roundHalfAway_nearest {n : Int} {d : Nat} (hd : 0 < d) (hn : 0 ≤ n) :
    2 * (d : Int) * roundHalfAway n d ≤ 2 * n + d ∧ 2 * n + d < 2 * (d : Int) * (roundHalfAway n d + 1) := by
  lift n to Nat using hn
  rw [roundHalfAway_natCast]
  exact_mod_cast roundHalfUp_nearest n hd

/-- Of a negative quotient, the signed rounding is the nearest integer, ties downwards. -/
theorem roundHalfAway_nearest_of_neg {n : Int} {d : Nat} (hd : 0 < d) (hn : n < 0) :
    2 * (d : Int) * (-roundHalfAway n d) ≤ 2 * (-n) + d ∧
      2 * (-n) + d < 2 * (d : Int) * (-roundHalfAway n d + 1) := by
  rw [← roundHalfAway_neg]
  exact roundHalfAway_nearest hd (by omega)

/-- A part of a rise, rounded, lies between nothing and the whole rise. -/
theorem roundHalfAway_mem_of_nonneg {m x : Int} {d : Nat} (hd : 0 < d) (hm : 0 ≤ m) (hx : 0 ≤ x) (hxd : x ≤ d) :
    0 ≤ roundHalfAway (m * x) d ∧ roundHalfAway (m * x) d ≤ m := by
  lift m to Nat using hm
  lift x to Nat using hx
  have part : m * x ≤ m * d := Nat.mul_le_mul_left m (by exact_mod_cast hxd)
  rw [← Nat.cast_mul, roundHalfAway_natCast]
  exact ⟨Int.natCast_nonneg _, by exact_mod_cast roundHalfUp_le_of_le_mul hd part⟩

/-- A part of a difference of either sign, rounded, lies between nothing and the whole difference. -/
theorem roundHalfAway_mem {m x : Int} {d : Nat} (hd : 0 < d) (hx : 0 ≤ x) (hxd : x ≤ d) :
    min 0 m ≤ roundHalfAway (m * x) d ∧ roundHalfAway (m * x) d ≤ max 0 m := by
  rcases le_total 0 m with hm | hm
  · have rise := roundHalfAway_mem_of_nonneg hd hm hx hxd
    omega
  · have fall := roundHalfAway_mem_of_nonneg hd (neg_nonneg.2 hm) hx hxd
    rw [neg_mul, roundHalfAway_neg] at fall
    omega

/-! ## Between two points (R58) -/

/-- The signed quotient of R58, rounded. -/
def factorStep (a b : CurvePoint) (t : Int) : Int :=
  roundHalfAway (((b.factor : Int) - a.factor) * (t - a.temperature)) (b.temperature - a.temperature).toNat

section
variable {a b : CurvePoint} {t : Int}

/-- Between two points the step stays within the difference of their factors. -/
theorem factorStep_mem (ha : a.temperature < t) (hb : t < b.temperature) :
    min 0 ((b.factor : Int) - a.factor) ≤ factorStep a b t ∧ factorStep a b t ≤ max 0 ((b.factor : Int) - a.factor) :=
  roundHalfAway_mem (by omega) (by omega) (by omega)

/-- Between two points the interpolated factor is the first one's plus the step: the sum is never cut at 0. -/
theorem interpolate_eq_add_factorStep (ha : a.temperature < t) (hb : t < b.temperature) :
    (interpolate a b t : Int) = a.factor + factorStep a b t :=
  Int.toNat_of_nonneg (a := a.factor + factorStep a b t) (by have := factorStep_mem ha hb; omega)

/-- The interpolated factor lies between the factors of its two points, both included. -/
theorem interpolate_mem (ha : a.temperature < t) (hb : t < b.temperature) :
    min a.factor b.factor ≤ interpolate a b t ∧ interpolate a b t ≤ max a.factor b.factor := by
  have sum := interpolate_eq_add_factorStep ha hb
  have step := factorStep_mem ha hb
  omega

end

/-! ## Along a curve (R57) -/

/-- At or below the first point, its factor. -/
theorem factorAt_cons_of_le {a : CurvePoint} {t : Int} (rest : List CurvePoint) (h : t ≤ a.temperature) :
    factorAt (a :: rest) t = a.factor := by
  cases rest with
  | nil => rfl
  | cons b rest => exact if_pos h

/-- Between the first two points, the interpolated factor. -/
theorem factorAt_cons_cons_of_between {a b : CurvePoint} {t : Int} (rest : List CurvePoint) (ha : a.temperature < t)
    (hb : t < b.temperature) : factorAt (a :: b :: rest) t = interpolate a b t := by
  rw [factorAt, if_neg (not_le.2 ha), if_pos hb]

/-- From the second point on, the first one is passed over. -/
theorem factorAt_cons_cons_of_le {a b : CurvePoint} {t : Int} (rest : List CurvePoint) (ha : a.temperature < t)
    (hb : b.temperature ≤ t) : factorAt (a :: b :: rest) t = factorAt (b :: rest) t := by
  rw [factorAt, if_neg (not_le.2 ha), if_neg (not_lt.2 hb)]

section
variable {points : List CurvePoint} {t : Int}

/-- On ascending points, those before a point that the temperature has reached are passed over. -/
theorem factorAt_eq_drop (asc : points.Pairwise (·.temperature < ·.temperature)) (k : Nat) (hk : k < points.length)
    (ht : points[k].temperature ≤ t) : factorAt points t = factorAt (points.drop k) t := by
  induction k with
  | zero => rfl
  | succ k ih =>
    have below : points[k].temperature < t :=
      (List.pairwise_iff_getElem.1 asc k (k + 1) (by omega) hk (by omega)).trans_le ht
    rw [ih (by omega) below.le, List.drop_eq_getElem_cons (by omega), List.drop_eq_getElem_cons hk,
      factorAt_cons_cons_of_le _ below ht]

/-- At a point, its own factor. -/
theorem factorAt_point (asc : points.Pairwise (·.temperature < ·.temperature)) {k : Nat} (hk : k < points.length)
    (ht : t = points[k].temperature) : factorAt points t = points[k].factor := by
  rw [factorAt_eq_drop asc k hk ht.ge, List.drop_eq_getElem_cons hk, factorAt_cons_of_le _ ht.le]

/-- At or above the last point, its factor. -/
theorem factorAt_last (asc : points.Pairwise (·.temperature < ·.temperature)) {k : Nat} (hk : k + 1 = points.length)
    (ht : points[k].temperature ≤ t) : factorAt points t = points[k].factor := by
  rw [factorAt_eq_drop asc k (by omega) ht, List.drop_eq_getElem_cons (by omega), List.drop_of_length_le hk.ge,
    factorAt]

/-- Between two neighbouring points, the interpolated factor. -/
theorem factorAt_between (asc : points.Pairwise (·.temperature < ·.temperature)) {k : Nat} (hk : k + 1 < points.length)
    (ha : points[k].temperature < t) (hb : t < points[k + 1].temperature) :
    factorAt points t = interpolate points[k] points[k + 1] t := by
  rw [factorAt_eq_drop asc k (by omega) ha.le, List.drop_eq_getElem_cons (by omega), List.drop_eq_getElem_cons hk,
    factorAt_cons_cons_of_between _ ha hb]

end

/-! ## The curve of a family (R53) -/

section
variable (curves : Vector CurvePoint 32) (f : Family)

@[simp] theorem length_curveOf : (curveOf curves f).length = 8 := by
  rw [curveOf, List.length_map, List.length_finRange]

@[simp] theorem getElem_curveOf (k : Nat) (hk : k < (curveOf curves f).length) :
    (curveOf curves f)[k] = curves[f.val * 8 + k]'(by rw [length_curveOf] at hk; omega) := by
  simp [curveOf]

/-- A family's curve is valid when its eight points are written. -/
theorem curveValid_curveOf_iff :
    curveValid (curveOf curves f) = true ↔ ∀ k : Fin 8, (curves[f.val * 8 + k.val]'(by omega)).written = true := by
  simp [curveValid, curveOf]

/-- Points at ascending temperatures make an ascending list. -/
theorem pairwise_curveOf (asc : ∀ j k : Fin 8, j < k → (curves[f.val * 8 + j.val]'(by omega)).temperature <
    (curves[f.val * 8 + k.val]'(by omega)).temperature) :
    (curveOf curves f).Pairwise (·.temperature < ·.temperature) :=
  List.pairwise_map.2 ((List.pairwise_lt_finRange 8).imp (asc _ _))

end

/-- Settles O22: the rounded quotient of R58 stays within the difference of its two factors, and the lookup of R57 passes
over the points before the last one that the temperature has reached. -/
theorem factorBetweenPoints : Obligations.FactorBetweenPoints := by
  refine ⟨fun a b t ha hb => ?between, fun curves f t => ⟨fun ⟨k, hk⟩ => ?invalid, fun written asc => ?valid⟩⟩
  case between =>
    obtain ⟨low, high⟩ := interpolate_mem ha hb
    have hd : 0 < (b.temperature - a.temperature).toNat := by omega
    have cast : ((b.temperature - a.temperature).toNat : Int) = b.temperature - a.temperature :=
      Int.toNat_of_nonneg (by omega)
    have step : (interpolate a b t : Int) - a.factor = factorStep a b t :=
      sub_eq_of_eq_add' (interpolate_eq_add_factorStep ha hb)
    refine ⟨low, high, ?_⟩
    rw [step, ← cast]
    exact ⟨roundHalfAway_nearest hd, roundHalfAway_nearest_of_neg hd⟩
  case invalid =>
    have unwritten : ¬ curveValid (curveOf curves f) = true := fun h =>
      absurd ((curveValid_curveOf_iff curves f).1 h k) (by simp [hk])
    exact if_neg unwritten
  case valid =>
    have sorted := pairwise_curveOf curves f asc
    have lookup : curveFactor (curveOf curves f) t = factorAt (curveOf curves f) t :=
      if_pos ((curveValid_curveOf_iff curves f).2 written)
    rw [lookup]
    refine ⟨fun h => ?first, fun h => ?last, fun k h => ?point, fun j k hjk ha hb => ?inside⟩
    case first => exact factorAt_cons_of_le _ h
    case last =>
      have at7 := factorAt_last (t := t) sorted (k := 7) (by simp)
      rw [getElem_curveOf] at at7
      exact at7 h
    case point =>
      have atk := factorAt_point (t := t) sorted (k := k.val) (by simp)
      rw [getElem_curveOf] at atk
      exact atk h
    case inside =>
      obtain ⟨k, hk⟩ := k
      obtain rfl : k = j.val + 1 := hjk
      have inner := factorAt_between (t := t) sorted (k := j.val) (by rwa [length_curveOf])
      rw [getElem_curveOf, getElem_curveOf] at inner
      exact inner ha hb

end Sys2Proof.Machine
end

section
/-! SUPPORT. WRITE to the bank map (R96 to R98): the tests of the rule as plain statements, its answer test by test, and
the proof of O38. -/

namespace Sys2Proof.Machine

/-! ## The fields of the write form -/

/-- An enabled or kind field is bit 0 of its byte (R178). -/
theorem flagAt_eq_testBit (bs : List Byte) (i : Nat) : flagAt bs i = (byteAt bs i).testBit 0 := by
  rw [flagAt, Nat.testBit_zero, beq_eq_decide]

/-- The span of a string as a choice on its kind (R95). -/
theorem BankString.span_eq_ite (b : BankString) : b.span = if b.kind = .paired then 2 * b.count else b.count := by
  rw [BankString.span]
  cases b.kind <;> rfl

/-! ## The tests of R96 -/

/-- Some place of the bank is fixed (R96, condition 2). -/
theorem anyFixed_iff (s : State) : anyFixed s = true ↔ ∃ p : PlaceNo, s.places[p].fixed = true := by
  simp [anyFixed]

/-- The range test field by field (R96, condition 3). -/
theorem stringInRange_iff (family : Nat) (b : BankString) :
    stringInRange family b = true ↔
      family ≤ 3 ∧ 1 ≤ b.count ∧ b.count ≤ 16 ∧ b.first ≤ 63 ∧ b.gradeMask.getLsbD 0 = false ∧
        b.gradeMask.getLsbD 15 = false ∧ b.capTolerance ≤ 500 := by
  simp [stringInRange, inRange, and_assoc]

/-- Two strings have no place in common when one ends before the other begins. -/
theorem spansDisjoint_iff (a b : BankString) :
    spansDisjoint a b = true ↔ a.first + a.span ≤ b.first ∨ b.first + b.span ≤ a.first := by
  simp [spansDisjoint]

/-- A string passes the overlap test when it is not enabled or lies apart from every other enabled string (R96,
condition 6). -/
theorem overlapsAnother_eq_false_iff (bank : BankMap) (k : StringNo) (b : BankString) :
    overlapsAnother bank k.val b = false ↔
      b.enabled = false ∨ ∀ j : StringNo, j ≠ k → bank[j].enabled = true →
        b.first + b.span ≤ bank[j].first ∨ bank[j].first + bank[j].span ≤ b.first := by
  simp only [← spansDisjoint_iff]
  cases hb : b.enabled <;> simp [overlapsAnother, hb, Fin.val_inj]

/-! ## The rule, test by test -/

/-- Within its bounds the bounded update is the plain one. -/
theorem setIfInBounds_eq_set {α : Type} {n : Nat} (v : Vector α n) (k : Fin n) (x : α) :
    v.setIfInBounds k.val x = v.set k.val x :=
  Vector.ext fun j hj => by rw [Vector.getElem_setIfInBounds, Vector.getElem_set]

section
variable {mask : Option (BitVec 16)} {params : List Byte} {s : State}

/-- Condition 1 of R96: a run is in being. -/
theorem bankMapRule_of_run (hr : s.run ≠ none) : bankMapRule mask params s = refuse .busy s :=
  if_pos (Option.isSome_iff_ne_none.2 hr)

/-- Condition 2 of R96: a place is fixed. -/
theorem bankMapRule_of_fixed (hr : s.run = none) (hf : ∃ p : PlaceNo, s.places[p].fixed = true) :
    bankMapRule mask params s = refuse .fixed s := by
  rw [bankMapRule, if_neg (by simp [hr]), if_pos ((anyFixed_iff s).2 hf)]

/-- Conditions 3 to 6 of R96, of which the first two share the outcome RANGE, and the effect of R98. -/
theorem bankMapRule_of_free {k : StringNo} {b : BankString} (hk : s.pointer.index = k.val)
    (hb : resultingString mask s.bank[k] params = b) (hr : s.run = none)
    (hf : ¬ ∃ p : PlaceNo, s.places[p].fixed = true) :
    bankMapRule mask params s =
      if ¬ (stringInRange (resultingFamily mask s.bank[k] params) b = true ∧ b.first + b.span ≤ 64) then
        refuse .range s
      else if b.kind = .paired ∧ b.first % 2 ≠ 0 then refuse .misaligned s
      else if overlapsAnother s.bank k.val b then refuse .overlap s
      else accept (resetPlan { s with bank := s.bank.set k b }) := by
  have old : s.bank[k.val]?.getD BankString.default = s.bank[k] := by simp
  rw [bankMapRule, if_neg (by simp [hr]), if_neg (mt (anyFixed_iff s).1 hf), hk, old, hb, setIfInBounds_eq_set]
  simp only [not_and_or, Bool.not_eq_true, not_le, ite_or]

end

/-! ## The answer of a WRITE -/

section
variable {tag : Byte} {params : List Byte} {s t : State} {table : Nat} {rule : State → Reply State}

/-- A WRITE that its table's rule refuses is answered with the outcome and no data. -/
theorem runWrite_refused {o : AnswerOutcome} (h : Heard tag 20 params s t) (ht : s.pointer.table = table)
    (hl : writeFormLength table = some params.length) (hrule : rule t = refuse o t) (ho : o ≠ .done) :
    runWrite table tag params rule s = answered tag 20 o [] t := by
  rw [runWrite_heard table rule h ht hl, hrule]
  exact if_neg ho

/-- A WRITE that its table's rule accepts is answered DONE and moves the pointer on (R155). -/
theorem runWrite_accepted {u : State} (h : Heard tag 20 params s t) (ht : s.pointer.table = table)
    (hl : writeFormLength table = some params.length) (hrule : rule t = accept u) :
    runWrite table tag params rule s = written tag u := by
  rw [runWrite_heard table rule h ht hl, hrule]
  rfl

end

/-- Settles O38: the conditions of R96 in their order, each read in the state once the directive is taken, which has the
run, the places and the bank map of the state before. -/
theorem bankMapWritten : Obligations.BankMapWritten := by
  intro tag params s t k heard hl hpointer old family b span inRange disjoint fixed
  have hrun : t.run = s.run := by rw [heard.1.fields]
  have hplaces : t.places = s.places := by rw [heard.1.fields]
  have hbank : t.bank = s.bank := by rw [heard.1.fields]
  have hindex : t.pointer.index = k.val := by rw [heard.1.fields, hpointer]
  have htable : s.pointer.table = 4 := by rw [hpointer]
  have hform : writeFormLength 4 = some params.length := by rw [hl]; rfl
  have refused {o : AnswerOutcome} (ho : o ≠ .done) (hrule : bankMapRule s.fieldMask params t = refuse o t) :
      exec (.bankMapWrite tag params) s = .next (answered tag 20 o [] t) :=
    congrArg Host.Outcome.next (runWrite_refused heard htable hform hrule ho)
  have hb : resultingString s.fieldMask t.bank[k] params = b := by
    simp only [resultingString, flagAt_eq_testBit, hbank]
    rfl
  have hspan : ∀ x : BankString, x.span = span x := BankString.span_eq_ite
  have hrange : stringInRange (resultingFamily s.fieldMask s.bank[k] params) b = true ∧ b.first + b.span ≤ 64 ↔
      inRange := by
    simp only [stringInRange_iff, hspan, and_assoc]
    rfl
  have hapart : overlapsAnother s.bank k.val b = false ↔ disjoint := by
    simp only [overlapsAnother_eq_false_iff, hspan]
    rfl
  have free := bankMapRule_of_free hindex hb
  rw [hbank] at free
  refine ⟨fun hr => ?busy, fun hr hf => ?fixedPlace, fun hr hf hbad => ?outOfRange,
    fun hr hf hin hkind hodd => ?misaligned, fun hr hf hin heven hmeets => ?overlap,
    fun hr hf hin heven hclear => ?accepted⟩
  case busy => exact refused nofun (bankMapRule_of_run (hrun ▸ hr))
  case fixedPlace => exact refused nofun (bankMapRule_of_fixed (hrun.trans hr) (by rwa [hplaces]))
  all_goals replace free := free (hrun.trans hr) (by rwa [hplaces])
  case outOfRange => exact refused nofun (free.trans (if_pos (mt hrange.1 hbad)))
  all_goals rw [if_neg (not_not.2 (hrange.2 hin))] at free
  case misaligned => exact refused nofun (free.trans (if_pos ⟨hkind, by omega⟩))
  all_goals
    have aligned : ¬ (b.kind = .paired ∧ b.first % 2 ≠ 0) := fun ⟨hkind, hodd⟩ =>
      heven.elim (fun hsingle => nomatch hkind.symm.trans hsingle) hodd
    rw [if_neg aligned] at free
  case overlap =>
    have meets : overlapsAnother s.bank k.val b = true := eq_true_of_ne_false (mt hapart.1 hmeets)
    exact refused nofun (free.trans (if_pos meets))
  case accepted =>
    have apart : ¬ overlapsAnother s.bank k.val b = true := ne_true_of_eq_false (hapart.2 hclear)
    exact congrArg Host.Outcome.next (runWrite_accepted heard htable hform (free.trans (if_neg apart)))

end Sys2Proof.Machine
end

section
/-! SUPPORT. The candidate list (R117, R118): which slots are entered, the list order as the order of a key, and the
proof of O44. -/

namespace Sys2Proof.Machine

/-! ## The entries -/

/-- Some enabled string of the family has the grade in its mask (R117, condition 4). -/
theorem wantedBySome_iff (bank : BankMap) (family : Family) (grade : Nat) :
    wantedBySome bank family grade = true ↔
      ∃ i : StringNo, bank[i].enabled = true ∧ bank[i].family = family ∧ bank[i].gradeMask.getLsbD grade = true := by
  simp [wantedBySome, and_assoc]

/-- A slot is entered under the four conditions of R117, with the copies of R118. -/
theorem candidateOf_eq_some_iff (s : State) (i : SlotNo) (c : Candidate) :
    candidateOf s i = some c ↔
      ∃ m cap, s.slots[i] = some m ∧ m.state = .graded ∧ inFixedPlace s i = false ∧ m.figures.cap = some cap ∧
        wantedBySome s.bank m.family m.grade = true ∧
        c = { slot := i, family := m.family, grade := m.grade, cap := cap.value,
              rdc := m.figures.rdc.map (·.value), taken := false, struck := false } := by
  rw [candidateOf]
  cases s.slots[i] with
  | none => simp
  | some m =>
    cases hcap : m.figures.cap with
    | none => simp [hcap]
    | some cap => simp [hcap, and_assoc, eq_comm (a := c)]

/-- The candidate list holds the entry of each slot that has one, and nothing else. -/
theorem mem_candidateList (s : State) (c : Candidate) : c ∈ candidateList s ↔ candidateOf s c.slot = some c := by
  rw [(candidateList_perm s).mem_iff, List.mem_filterMap]
  constructor
  · rintro ⟨i, -, hi⟩
    rwa [(candidateOf_some hi).1]
  · exact fun h => ⟨c.slot, List.mem_finRange _, h⟩

/-! ## The list order -/

/-- The sort key of an entry: CAP descending, RDC ascending with the absent last, slot number ascending (R118). -/
def listKey (c : Candidate) : ℕᵒᵈ ×ₗ WithTop ℕ ×ₗ SlotNo :=
  toLex (OrderDual.toDual c.cap, toLex (c.rdc.elim ⊤ (↑), c.slot))

/-- The list order is the order of the keys. -/
theorem listedBefore_iff_listKey_lt (a b : Candidate) : listedBefore a b = true ↔ listKey a < listKey b := by
  simp only [listKey, Prod.Lex.toLex_lt_toLex, listedBefore, rdcBefore]
  cases a.rdc <;> cases b.rdc <;> simp

/-- Entries with the same key are of the same slot. -/
theorem slot_eq_of_listKey_eq {a b : Candidate} (h : listKey a = listKey b) : a.slot = b.slot := by
  simp only [listKey, toLex_inj, Prod.mk.injEq] at h
  exact h.2.2

/-- The list order in the words of R118. -/
theorem listKey_lt_iff (a b : Candidate) :
    listKey a < listKey b ↔ b.cap < a.cap ∨ (a.cap = b.cap ∧
      ((∃ x, a.rdc = some x ∧ (b.rdc = none ∨ ∃ y, b.rdc = some y ∧ (x < y ∨ (x = y ∧ a.slot < b.slot)))) ∨
        (a.rdc = none ∧ b.rdc = none ∧ a.slot < b.slot))) := by
  simp only [listKey, Prod.Lex.toLex_lt_toLex]
  cases a.rdc <;> cases b.rdc <;> simp

/-! ## The sorting -/

/-- Insertion keeps a list sorted by key. -/
theorem insertCandidate_sorted (c : Candidate) {l : List Candidate}
    (sorted : l.Pairwise (fun a b => listKey a ≤ listKey b)) :
    (insertCandidate c l).Pairwise (fun a b => listKey a ≤ listKey b) := by
  induction l with
  | nil => exact List.pairwise_singleton _ _
  | cons d l ih =>
    obtain ⟨first, rest⟩ := List.pairwise_cons.1 sorted
    rw [insertCandidate]
    split
    next hcd =>
      have before : listKey c ≤ listKey d := ((listedBefore_iff_listKey_lt c d).1 hcd).le
      exact sorted.cons (List.forall_mem_cons.2 ⟨before, fun x hx => before.trans (first x hx)⟩)
    next hcd =>
      have after : listKey d ≤ listKey c := not_lt.1 (mt (listedBefore_iff_listKey_lt c d).2 hcd)
      have least : ∀ x ∈ c :: l, listKey d ≤ listKey x := List.forall_mem_cons.2 ⟨after, first⟩
      exact (ih rest).cons fun x hx => least x ((insertCandidate_perm c l).mem_iff.1 hx)

/-- The candidate list is sorted by key. -/
theorem candidateList_sorted (s : State) : (candidateList s).Pairwise (fun a b => listKey a ≤ listKey b) := by
  rw [candidateList]
  induction (List.finRange 64).filterMap (candidateOf s) with
  | nil => exact .nil
  | cons c l ih => exact insertCandidate_sorted c ih

/-- No two entries have the same key, since each slot is entered once. -/
theorem candidateList_strictlySorted (s : State) :
    (candidateList s).Pairwise (fun a b => listKey a < listKey b) := by
  have once : ((candidateList s).map (·.slot)).Nodup := (newRun_but s 0).listed
  exact ((candidateList_sorted s).and (List.pairwise_map.1 once)).imp fun ⟨le, slots⟩ =>
    lt_of_le_of_ne le (mt slot_eq_of_listKey_eq slots)

/-- Settles O44: the list is built by insertion in the strict order of the keys, from the entry of each slot that has
one. -/
theorem candidatesListed : Obligations.CandidatesListed := by
  intro s
  refine ⟨(candidateList_strictlySorted s).imp fun {a b} => (listKey_lt_iff a b).1, fun c => ?_⟩
  simp only [mem_candidateList, candidateOf_eq_some_iff, wantedBySome_iff]

end Sys2Proof.Machine
end

section
/-! SUPPORT. What one step can do to the tables, the places, the run and the store, said once: the quiet changes, the
operations, and the inversion of a step that every invariant over these fields rests on. -/

namespace Sys2Proof.Machine

/-! ## Quiet changes -/

/-- The fields that the invariants of tables, places, run and store speak of. -/
structure CoreFields where
  window : Option EditWindow
  slotMap : Vector (Option SlotNo) 128
  rows : GradeTable
  origin : Option GradeImage
  modified : Bool
  slots : Vector Slot 64
  bank : BankMap
  places : Vector Place 64
  records : Vector StringRecord 8
  run : Option PlanningRun
  store : ImageStore
  storeWork : Option StoreWork

/-- The core of a state. -/
def State.core (s : State) : CoreFields :=
  { window := s.window, slotMap := s.slotMap, rows := s.rows, origin := s.origin, modified := s.modified,
    slots := s.slots, bank := s.bank, places := s.places, records := s.records, run := s.run, store := s.store,
    storeWork := s.storeWork }

/-- The fields with a bound. -/
structure QueueFields where
  upQueue : List Frame
  dnQueue : List Frame
  directiveQueue : List DirectiveFrame
  reports : List Report
  arbiterCount : Nat
  patternCount : Nat
  counters : Counters
  nodes : Vector NodeEntry 16
  engineAddress : Nat

/-- The queues, counts and the engine address of a state. -/
def State.queues (s : State) : QueueFields :=
  { upQueue := s.upQueue, dnQueue := s.dnQueue, directiveQueue := s.directiveQueue, reports := s.reports,
    arbiterCount := s.arbiterCount, patternCount := s.patternCount, counters := s.counters, nodes := s.nodes,
    engineAddress := s.engineAddress }

/-- The bounds speak of these fields alone. -/
theorem QueuesBounded.congr {s t : State} (h : t.queues = s.queues) (hs : QueuesBounded s) : QueuesBounded t := by
  simp only [State.queues, QueueFields.mk.injEq] at h
  obtain ⟨up, down, directives, reports, arbiter, pattern, counters, nodes, address⟩ := h
  constructor
  · exact up ▸ hs.up
  · exact down ▸ hs.down
  · exact directives ▸ hs.directives
  · exact reports ▸ hs.reports
  · exact reports ▸ hs.keys
  · exact arbiter ▸ hs.arbiter
  · exact pattern ▸ hs.pattern
  · exact counters ▸ hs.counters
  · exact nodes ▸ hs.nodes
  · exact address ▸ hs.address

/-- A quiet change leaves the core, and no queue or count passes its bound in it. -/
structure Quiet (s t : State) : Prop where
  core : t.core = s.core
  bounds : QueuesBounded s → QueuesBounded t

theorem Quiet.fields {s t : State} (h : Quiet s t) :
    t.window = s.window ∧ t.slotMap = s.slotMap ∧ t.rows = s.rows ∧ t.origin = s.origin ∧ t.modified = s.modified ∧
    t.slots = s.slots ∧ t.bank = s.bank ∧ t.places = s.places ∧ t.records = s.records ∧ t.run = s.run ∧
    t.store = s.store ∧ t.storeWork = s.storeWork := by
  simpa only [State.core, CoreFields.mk.injEq] using h.core

/-- A change outside the core and the queues is quiet. -/
theorem Quiet.same {s t : State} (core : t.core = s.core) (queues : t.queues = s.queues) : Quiet s t :=
  ⟨core, .congr queues⟩

theorem Quiet.refl (s : State) : Quiet s s := ⟨rfl, id⟩

theorem Quiet.trans {s t u : State} (h : Quiet s t) (k : Quiet t u) : Quiet s u :=
  ⟨k.core.trans h.core, fun hs => k.bounds (h.bounds hs)⟩

/-- What idle ports start is quiet. -/
theorem startPorts_quiet (s : State) : Quiet s (startPorts s) := by
  have work := startPorts_work s
  refine ⟨by rw [work]; rfl, fun hs => ?_⟩
  obtain ⟨up, down, reports, arbiter⟩ := startPorts_queues s
  constructor
  · exact up.trans hs.up
  · exact down.trans hs.down
  · simpa only [work.fields] using hs.directives
  · exact reports.length_le.trans hs.reports
  · exact hs.keys.sublist reports
  · exact arbiter hs.arbiter
  · simpa only [work.fields] using hs.pattern
  · simpa only [work.fields] using hs.counters
  · simpa only [work.fields] using hs.nodes
  · simpa only [work.fields] using hs.address

/-- Work on slots, places and reports that keeps the bounds of the report unit keeps all bounds. -/
theorem SlotWork.bounds {s t : State} (h : SlotWork s t) (reported : Reported s t) (hs : QueuesBounded s) :
    QueuesBounded t := by
  constructor
  · simpa only [h.fields] using hs.up
  · simpa only [h.fields] using hs.down
  · simpa only [h.fields] using hs.directives
  · exact reported.length hs.reports
  · exact reported.keys hs.keys
  · simpa only [h.fields] using hs.arbiter
  · simpa only [h.fields] using hs.pattern
  · exact reported.counters hs.counters
  · simpa only [h.fields] using hs.nodes
  · simpa only [h.fields] using hs.address

/-- A report request is quiet. -/
theorem requestReport_quiet (r : Report) (s : State) : Quiet s (requestReport r s) := by
  obtain ⟨slots, places, records, run⟩ := requestReport_keeps r s
  refine ⟨?_, (requestReport_work r s).bounds (requestReport_reported r s)⟩
  simp only [State.core, slots, places, records, run, (requestReport_work r s).fields]

/-- The pattern count is set within its bound, with what else is outside the core and the queues. -/
theorem Quiet.pattern {s t : State} (core : t.core = s.core)
    (queues : t.queues = { s.queues with patternCount := t.patternCount }) (h : t.patternCount ≤ 3) : Quiet s t := by
  have bounded : ∀ n, n ≤ 3 → QueuesBounded s → QueuesBounded { s with patternCount := n } := fun _ hn hs =>
    { hs with pattern := hn }
  exact ⟨core, fun hs => .congr queues (bounded _ h hs)⟩

/-- The counters are set within their bounds, with what else is outside the core and the queues. -/
theorem Quiet.counted {s t : State} (core : t.core = s.core) (queues : t.queues = { s.queues with counters := t.counters })
    (h : s.counters.bounded → t.counters.bounded) : Quiet s t := by
  have bounded : ∀ c, (s.counters.bounded → c.bounded) → QueuesBounded s → QueuesBounded { s with counters := c } :=
    fun _ hc hs => { hs with counters := hc hs.counters }
  exact ⟨core, fun hs => .congr queues (bounded _ h hs)⟩

theorem countUp_le (n : Nat) : countUp n ≤ 65535 := Nat.min_le_right _ _

/-- Counting a malformed frame is quiet. -/
theorem countMalformed_quiet (s : State) : Quiet s (countMalformed s) :=
  .counted rfl rfl fun ⟨a, _, c, d, e, f⟩ => ⟨a, countUp_le _, c, d, e, f⟩

/-- Counting a bad check is quiet. -/
theorem countBadCheck_quiet (s : State) : Quiet s (countBadCheck s) :=
  .counted rfl rfl fun ⟨_, b, c, d, e, f⟩ => ⟨countUp_le _, b, c, d, e, f⟩

theorem clearedCounter_le {named : Byte} {k n m : Nat} (h : n ≤ m) : clearedCounter named k n ≤ m := by
  unfold clearedCounter
  split
  · exact Nat.zero_le m
  · exact h

/-- Clearing counters is quiet. -/
theorem statusClearRule_quiet (params : List Byte) (s : State) : Quiet s (statusClearRule params s).state := by
  refine .counted rfl rfl fun h => ?_
  obtain ⟨a, b, c, d, e, f⟩ := h
  exact ⟨clearedCounter_le a, clearedCounter_le b, clearedCounter_le c, clearedCounter_le d, clearedCounter_le e,
    clearedCounter_le f⟩

/-- Taking a directive is quiet. -/
theorem Taken.quiet {d : DirectiveFrame} {s t : State} (h : Taken d s t) : Quiet s t := by
  obtain ⟨-, -, -, ⟨rest, hq, rfl⟩ | ⟨-, -, rfl⟩⟩ := h
  · have shorter : rest.length ≤ s.directiveQueue.length := by simp [hq]
    exact ⟨rfl, fun hs => { hs with directives := shorter.trans hs.directives }⟩
  · exact .pattern rfl rfl (Nat.zero_le 3)

/-- Placing an answer is quiet. -/
theorem placeAnswer_quiet (tag code : Byte) (r : Reply State) : Quiet r.state (placeAnswer tag code r) := .same rfl rfl

/-- A directive that is not known is answered quietly. -/
theorem answerUnknown_quiet (tag : Byte) (payload : List Byte) (s : State) : Quiet s (answerUnknown tag payload s) := by
  cases payload <;> exact .same rfl rfl

/-- Queueing a frame for the up-port is quiet. -/
theorem forwardUp_quiet (f : Frame) (s : State) : Quiet s (forwardUp f s) := by
  unfold forwardUp
  split
  next room => exact ⟨rfl, fun hs => { hs with up := by simpa [Config.upQueueSize] using room }⟩
  next => exact .counted rfl rfl fun ⟨a, b, _, d, e, f⟩ => ⟨a, b, countUp_le _, d, e, f⟩

/-- Queueing a frame for the down-port is quiet. -/
theorem forwardDown_quiet (f : Frame) (s : State) : Quiet s (forwardDown f s) := by
  unfold forwardDown
  split
  next room => exact ⟨rfl, fun hs => { hs with down := by simpa [Config.dnQueueSize] using room }⟩
  next => exact .counted rfl rfl fun ⟨a, b, c, _, e, f⟩ => ⟨a, b, c, countUp_le _, e, f⟩

/-- Offering a directive frame for taking is quiet. -/
theorem offerDirective_quiet (d : DirectiveFrame) (s : State) : Quiet s (offerDirective d s) := by
  unfold offerDirective
  split
  next room => exact ⟨rfl, fun hs => { hs with directives := by simpa [Config.directiveQueueSize] using room }⟩
  next => exact .counted rfl rfl fun ⟨a, b, c, d, _, f⟩ => ⟨a, b, c, d, countUp_le _, f⟩

/-- Judging the check of a frame is quiet. -/
theorem noteCheck_quiet (f : Frame) (s : State) : Quiet s (noteCheck f s) := by
  unfold noteCheck
  split
  · exact .refl s
  · exact countBadCheck_quiet s

/-- A frame at the up-port is quiet. -/
theorem arriveUp_quiet (f : Frame) (s : State) : Quiet s (arriveUp f s) := by
  unfold arriveUp
  split <;> [skip; split] <;> [skip; skip; split] <;> [skip; skip; split; skip]
  · exact countMalformed_quiet s
  · exact (countMalformed_quiet s).trans (forwardDown_quiet f _)
  · exact offerDirective_quiet _ s
  · exact countBadCheck_quiet s
  · exact (noteCheck_quiet f s).trans (forwardDown_quiet f _)

/-- Cutting off a frame at the up-port is quiet. -/
theorem cutUp_quiet (s : State) : Quiet s (cutUp s) := by
  unfold cutUp
  split
  · have ended : Quiet s { s with upReceiving := false } := .same rfl rfl
    exact ended.trans (countMalformed_quiet _)
  · exact .refl s

/-! ## The operations -/

/-- The operations on tables, places, run and store that a step can carry out, each under what its rule has tested. -/
inductive CoreOp : State → State → Prop where
  | idle (s : State) : CoreOp s s
  | restart (spare : Bool) (s : State) : CoreOp s (enterStarting spare s)
  | startUp (straps : BitVec 5) (elapsed : Nat) (s : State) :
      CoreOp s (slotsStage (loadingStage straps (clearingStage elapsed s)))
  | observe (node : Nat) (payload : List Byte) (s : State) : CoreOp s (observe node payload s)
  | fallSilent (node : Nat) (s : State) : CoreOp s (fallSilent node s)
  | enterBypass (s : State) : CoreOp s (enterBypass s)
  | purge (s : State) : s.run = none → CoreOp s (purgeAll s)
  | mapEntry (index : Nat) (v : Option SlotNo) (s : State) :
      (∀ i, v = some i → namedElsewhere s.slotMap index i = false) → CoreOp s (assignEntry index v s)
  | resetSegments (which : SlotNo → ModuleRecord → Bool) (s : State) : CoreOp s (resetSegmentsWhere which s)
  | gradeRow (index : Nat) (r : GradeRow) (s : State) : s.window.isSome = true → CoreOp s (storeRow index r s)
  | bankMap (index : Nat) (b : BankString) (s : State) : s.run = none → anyFixed s = false →
      b.first + b.span ≤ 64 → overlapsAnother s.bank index b = false →
      CoreOp s (resetPlan { s with bank := s.bank.setIfInBounds index b })
  | editOpen (s : State) : s.window = none → s.run = none → tableCertified s = false →
      CoreOp s { s with window := some { written := false, shadow := s.rows } }
  | editClose (w : EditWindow) (s : State) : s.window = some w →
      CoreOp s (evaluateAll { s with window := none, modified := s.modified || w.written })
  | editCancel (w : EditWindow) (s : State) : s.window = some w →
      CoreOp s (evaluateAll { s with window := none, rows := w.shadow })
  | admitted (i : SlotNo) (tag : List Byte) (family : Family) (cells rated : Nat) (s : State) : s.slots[i] = none →
      CoreOp s (setSlot i (some (admittedRecord tag family cells rated)) s)
  | withdraw (i : SlotNo) (s : State) : inFixedPlace s i = false → CoreOp s (withdrawSlot i s)
  | clearFigures (i : SlotNo) (named : List FigureKind) (s : State) : CoreOp s (clearSlotFigures i named s)
  | planRun (budget : Nat) (s : State) : s.run = none → s.window = none →
      CoreOp s { s with run := some (newRun s budget) }
  | runMode (r : PlanningRun) (mode : RunMode) (s : State) : s.run = some r →
      CoreOp s { s with run := some { r with mode := mode } }
  | abort (s : State) : CoreOp s (abortRun s)
  | opening (r : PlanningRun) (i : StringNo) (s : State) : s.run = some r → r.current = none →
      nextString s.bank r.lastProcessed = some i → CoreOp s { s with run := some (openString s r i) }
  | filling (r : PlanningRun) (c : CurrentString) (s : State) : s.run = some r → r.current = some c →
      CoreOp s { s with run := some (fillString s.bank r c) }
  | discard (r : PlanningRun) (s : State) : s.run = some r → CoreOp s (discardRun r s)
  | adopt (r : PlanningRun) (s : State) : s.run = some r → r.disturbed = false → r.current = none →
      nextString s.bank r.lastProcessed = none → CoreOp s (adoptRun r s)
  | fix (i : StringNo) (pos : Nat) (s : State) : pos < s.bank[i].count → s.bank[i].enabled = true →
      runRefusal s i = none → positionFixed s i pos = false → positionFilled s i pos = true →
      CoreOp s (fixWithRun i pos s)
  | unfix (i : StringNo) (pos : Nat) (s : State) : pos < s.bank[i].count → s.bank[i].enabled = true →
      runRefusal s i = none → CoreOp s (unfixWithRun i pos s)
  | fixAll (s : State) : s.run = none → CoreOp s ((enabledPositions s.bank).foldl fixIfFilled (s, 0)).1
  | unfixAll (s : State) : s.run = none → CoreOp s ((enabledPositions s.bank).foldl unfixIfFixed (s, 0)).1
  | save (n : Nat) (c : SavedContent) (s : State) : contentFor s n = some c → imageCertified s.store n = false →
      s.storeWork = none → (isGradeImage n = true → s.window = none) → CoreOp s (beginSave c s)
  | saved (c : SavedContent) (s : State) : s.storeWork = some (.save c) →
      CoreOp s { s with store := writeImage c s.store, storeWork := none }
  | load (n : Nat) (s : State) : s.storeWork = none → (4 ≤ n → s.run = none) →
      (isGradeImage n = true → s.window = none) → (n = 4 → anyFixed s = false) → CoreOp s (loadImage n s)
  | certify (g : GradeImage) (s : State) : s.storeWork = none → s.store.grades[g] ≠ none →
      CoreOp s { s with storeWork := some (.certify g) }
  | certified (g : GradeImage) (s : State) : s.storeWork = some (.certify g) →
      CoreOp s { s with store := certifyImage g s.store, storeWork := none }

/-- Between `s` and `t` one operation is carried out, with quiet changes around it. -/
def CoreStep (s t : State) : Prop := ∃ u v, Quiet s u ∧ CoreOp u v ∧ Quiet v t

theorem CoreOp.coreStep {s t : State} (h : CoreOp s t) : CoreStep s t := ⟨s, t, .refl s, h, .refl t⟩

theorem Quiet.coreStep {s t : State} (h : Quiet s t) : CoreStep s t := ⟨s, s, .refl s, .idle s, h⟩

theorem CoreStep.before {s t u : State} (h : Quiet s t) (k : CoreStep t u) : CoreStep s u :=
  let ⟨a, b, ha, hab, hb⟩ := k
  ⟨a, b, h.trans ha, hab, hb⟩

theorem CoreStep.after {s t u : State} (h : CoreStep s t) (k : Quiet t u) : CoreStep s u :=
  let ⟨a, b, ha, hab, hb⟩ := h
  ⟨a, b, ha, hab, hb.trans k⟩

/-- A property of the core that every operation keeps is kept by a step. -/
theorem CoreStep.keeps {P : State → Prop} (quiet : ∀ s t, Quiet s t → P s → P t)
    (op : ∀ s t, CoreOp s t → P s → P t) {s t : State} (h : CoreStep s t) (hs : P s) : P t :=
  let ⟨_, _, hu, huv, hv⟩ := h
  quiet _ _ hv (op _ _ huv (quiet _ _ hu hs))

/-! ## What each directive rule does -/

/-- A directive does to the core what its rule does once it is taken. -/
theorem runDirective_coreStep (tag : Byte) (code : Nat) (params : List Byte) (b : Bool) (rule : State → Reply State)
    (s : State) (h : ∀ t, CoreStep t (rule t).state) : CoreStep s (runDirective tag code params b rule s) := by
  unfold runDirective
  split
  next => exact (Quiet.refl s).coreStep
  next u hu =>
    have taken : Quiet s (consumeMarks u) := Taken.quiet ((taken_iff _ _ _).2 ⟨u, hu, rfl⟩)
    have checked : CoreStep (consumeMarks u) (checkDirective code params b rule (consumeMarks u)).state := by
      unfold checkDirective
      split <;> [skip; split] <;> [skip; split; skip]
      · exact (Quiet.refl _).coreStep
      · exact h _
      · exact (Quiet.refl _).coreStep
      · exact h _
    exact ((checked.after (placeAnswer_quiet _ _ _)).after (startPorts_quiet _)).before taken

/-- A WRITE does to the core what the rule of its table does. -/
theorem runWrite_coreStep (table : Nat) (tag : Byte) (params : List Byte) (rule : State → Reply State) (s : State)
    (h : ∀ t, CoreStep t (rule t).state) : CoreStep s (runWrite table tag params rule s) := by
  unfold runWrite
  split
  next =>
    refine runDirective_coreStep _ _ _ _ _ s fun t => ?_
    unfold writeEntry
    dsimp only
    split <;> [split; skip]
    · exact (h t).after (by exact .same rfl rfl)
    · exact h t
    · exact (Quiet.refl t).coreStep
  next => exact (Quiet.refl s).coreStep

section
variable (params : List Byte) (mask : Option (BitVec 16)) (s : State)

theorem slotMapRule_coreStep : CoreStep s (slotMapRule params s).state := by
  unfold slotMapRule
  split <;> [skip; split] <;> [skip; split; skip]
  next => exact (CoreOp.mapEntry _ none s nofun).coreStep
  next => exact (Quiet.refl s).coreStep
  next hne =>
    refine (CoreOp.mapEntry _ _ s fun i hi => ?_).coreStep
    cases hi
    exact Bool.eq_false_iff.2 hne
  next => exact (Quiet.refl s).coreStep

theorem profileRule_coreStep : CoreStep s (profileRule mask params s).state := by
  unfold profileRule
  dsimp only
  split <;> [skip; split]
  · exact (Quiet.refl s).coreStep
  · exact (Quiet.refl s).coreStep
  · exact CoreStep.before (by exact .same rfl rfl) (CoreOp.resetSegments _ _).coreStep

theorem curveRule_coreStep : CoreStep s (curveRule mask params s).state := by
  refine Quiet.coreStep ?_
  unfold curveRule
  dsimp only
  split <;> [skip; split] <;> [skip; skip; split] <;> exact .same rfl rfl

theorem gradeRowRule_coreStep : CoreStep s (gradeRowRule mask params s).state := by
  unfold gradeRowRule
  dsimp only
  split <;> [skip; split] <;> [skip; skip; split] <;> [skip; skip; skip; split] <;> [skip; skip; skip; skip; split]
  next => exact (Quiet.refl s).coreStep
  next => exact (Quiet.refl s).coreStep
  next => exact (Quiet.refl s).coreStep
  next => exact (Quiet.refl s).coreStep
  next => exact (Quiet.refl s).coreStep
  next hw _ _ _ _ _ => exact (CoreOp.gradeRow _ _ s (Option.isSome_iff_ne_none.2 (by simpa using hw))).coreStep

theorem bankMapRule_coreStep : CoreStep s (bankMapRule mask params s).state := by
  unfold bankMapRule
  dsimp only
  split <;> [skip; split] <;> [skip; skip; split] <;> [skip; skip; skip; split] <;>
    [skip; skip; skip; skip; split] <;> [skip; skip; skip; skip; skip; split]
  next => exact (Quiet.refl s).coreStep
  next => exact (Quiet.refl s).coreStep
  next => exact (Quiet.refl s).coreStep
  next => exact (Quiet.refl s).coreStep
  next => exact (Quiet.refl s).coreStep
  next => exact (Quiet.refl s).coreStep
  next hrun hfixed _ hspan _ hover =>
    exact (CoreOp.bankMap _ _ s (by simpa using hrun) (by simpa using hfixed) (by omega) (by simpa using hover)).coreStep

theorem settingsRule_coreStep : CoreStep s (settingsRule mask params s).state := by
  refine Quiet.coreStep ?_
  unfold settingsRule
  dsimp only
  split <;> exact .same rfl rfl

theorem editOpenRule_coreStep : CoreStep s (editOpenRule s).state := by
  unfold editOpenRule
  split <;> [skip; split] <;> [skip; skip; split]
  next => exact (Quiet.refl s).coreStep
  next => exact (Quiet.refl s).coreStep
  next => exact (Quiet.refl s).coreStep
  next hw hr hc => exact (CoreOp.editOpen s (by simpa using hw) (by simpa using hr) (by simpa using hc)).coreStep

theorem editCloseRule_coreStep : CoreStep s (editCloseRule s).state := by
  unfold editCloseRule
  split
  next => exact (Quiet.refl s).coreStep
  next w hw => exact (CoreOp.editClose w s hw).coreStep

theorem editCancelRule_coreStep : CoreStep s (editCancelRule s).state := by
  unfold editCancelRule
  split
  next => exact (Quiet.refl s).coreStep
  next w hw => exact (CoreOp.editCancel w s hw).coreStep

theorem admitRule_coreStep : CoreStep s (admitRule params s).state := by
  unfold admitRule admitTo
  dsimp only
  split <;> [split; skip] <;> [skip; split; skip] <;> [skip; split; skip; skip] <;> [skip; skip; split; skip; skip] <;>
    [skip; skip; skip; split; skip; skip] <;> [skip; skip; skip; skip; split; skip; skip]
  next => exact (Quiet.refl s).coreStep
  next => exact (Quiet.refl s).coreStep
  next => exact (Quiet.refl s).coreStep
  next => exact (Quiet.refl s).coreStep
  next => exact (Quiet.refl s).coreStep
  next hi hvacant _ _ _ _ _ => exact (CoreOp.admitted ⟨byteAt params 0, hi⟩ _ _ _ _ s (by simpa using hvacant)).coreStep
  next => exact (Quiet.refl s).coreStep
  next => exact (Quiet.refl s).coreStep

theorem withdrawRule_coreStep : CoreStep s (withdrawRule params s).state := by
  unfold withdrawRule
  split <;> [split; skip] <;> [skip; split; skip]
  next => exact (Quiet.refl s).coreStep
  next => exact (Quiet.refl s).coreStep
  next hn => exact (CoreOp.withdraw _ s (by simpa using hn)).coreStep
  next => exact (Quiet.refl s).coreStep

theorem clearFiguresRule_coreStep : CoreStep s (clearFiguresRule params s).state := by
  unfold clearFiguresRule
  split <;> [split; skip] <;> [skip; split; skip]
  next => exact (Quiet.refl s).coreStep
  next => exact (CoreOp.clearFigures _ _ s).coreStep
  next => exact (Quiet.refl s).coreStep
  next => exact (Quiet.refl s).coreStep

theorem purgeRule_coreStep (enabled : Bool) : CoreStep s (purgeRule enabled s).state := by
  unfold purgeRule
  split <;> [skip; split]
  next => exact (Quiet.refl s).coreStep
  next => exact (Quiet.refl s).coreStep
  next hr => exact (CoreOp.purge s (by simpa using hr)).coreStep

theorem planRunRule_coreStep : CoreStep s (planRunRule s).state := by
  unfold planRunRule
  split <;> [skip; split]
  next => exact (Quiet.refl s).coreStep
  next => exact (Quiet.refl s).coreStep
  next hr hw => exact (CoreOp.planRun _ s (by simpa using hr) (by simpa using hw)).coreStep

theorem planHoldRule_coreStep : CoreStep s (planHoldRule s).state := by
  unfold planHoldRule
  split <;> [split; skip]
  next hr _ => exact (CoreOp.runMode _ _ s hr).coreStep
  next => exact (Quiet.refl s).coreStep
  next => exact (Quiet.refl s).coreStep

theorem planResumeRule_coreStep : CoreStep s (planResumeRule s).state := by
  unfold planResumeRule
  split <;> [split; skip]
  next hr _ => exact (CoreOp.runMode _ _ s hr).coreStep
  next => exact (Quiet.refl s).coreStep
  next => exact (Quiet.refl s).coreStep

theorem planAbortRule_coreStep : CoreStep s (planAbortRule s).state := by
  unfold planAbortRule
  split
  next => exact (CoreOp.abort s).coreStep
  next => exact (Quiet.refl s).coreStep

/-- A directive on a position does what the rest of its rule does on a position of an enabled string that the run leaves
free. -/
theorem withPosition_coreStep (rest : StringNo → Nat → State → Reply State)
    (h : ∀ i pos, pos < s.bank[i].count → s.bank[i].enabled = true → runRefusal s i = none →
      CoreStep s (rest i pos s).state) : CoreStep s (withPosition params rest s).state := by
  unfold withPosition
  dsimp only
  split <;> [split; skip] <;> [skip; split; skip] <;> [skip; skip; split; skip]
  next => exact (Quiet.refl s).coreStep
  next => exact (Quiet.refl s).coreStep
  next => exact (Quiet.refl s).coreStep
  next hc he _ hr => exact h _ _ (by omega) (by simpa using he) hr
  next => exact (Quiet.refl s).coreStep

theorem fixRule_coreStep : CoreStep s (fixRule params s).state := by
  refine withPosition_coreStep params s _ fun i pos hc he hr => ?_
  split <;> [skip; split]
  next => exact (Quiet.refl s).coreStep
  next => exact (Quiet.refl s).coreStep
  next hf hl => exact (CoreOp.fix i pos s hc he hr (by simpa using hf) (by simpa using hl)).coreStep

theorem unfixRule_coreStep : CoreStep s (unfixRule params s).state := by
  refine withPosition_coreStep params s _ fun i pos hc he hr => ?_
  split
  next => exact (CoreOp.unfix i pos s hc he hr).coreStep
  next => exact (Quiet.refl s).coreStep

theorem fixAllRule_coreStep : CoreStep s (fixAllRule s).state := by
  unfold fixAllRule
  split
  next => exact (Quiet.refl s).coreStep
  next hr => exact (CoreOp.fixAll s (by simpa using hr)).coreStep

theorem unfixAllRule_coreStep : CoreStep s (unfixAllRule s).state := by
  unfold unfixAllRule
  split
  next => exact (Quiet.refl s).coreStep
  next hr => exact (CoreOp.unfixAll s (by simpa using hr)).coreStep

/-- A refusal that clears the latch is quiet. -/
theorem refuseLatched_coreStep (o : AnswerOutcome) : CoreStep s (refuseLatched o s).state :=
  Quiet.coreStep (.same rfl rfl)

theorem storeSaveRule_coreStep : CoreStep s (storeSaveRule params s).state := by
  unfold storeSaveRule
  dsimp only
  split <;> [skip; split] <;> [skip; skip; split] <;> [skip; skip; skip; split] <;> [skip; skip; skip; skip; split] <;>
    [skip; skip; skip; skip; skip; split]
  next => exact refuseLatched_coreStep s _
  next => exact refuseLatched_coreStep s _
  next => exact refuseLatched_coreStep s _
  next => exact refuseLatched_coreStep s _
  next => exact refuseLatched_coreStep s _
  next => exact refuseLatched_coreStep s _
  next hlocked hbusy hedit _ c hc =>
    refine (CoreOp.save _ c s hc ?_ (by simpa using hbusy) fun hg => ?_).coreStep
    · exact Bool.eq_false_iff.2 fun h => hlocked (.inr h)
    · simpa [hg] using hedit

theorem storeLoadRule_coreStep : CoreStep s (storeLoadRule params s).state := by
  unfold storeLoadRule
  dsimp only
  split <;> [skip; split] <;> [skip; skip; split] <;> [skip; skip; skip; split] <;> [skip; skip; skip; skip; split] <;>
    [skip; skip; skip; skip; skip; split]
  next => exact (Quiet.refl s).coreStep
  next => exact (Quiet.refl s).coreStep
  next => exact (Quiet.refl s).coreStep
  next => exact (Quiet.refl s).coreStep
  next => exact (Quiet.refl s).coreStep
  next => exact (Quiet.refl s).coreStep
  next _ hbusy _ hrun hedit hfixed =>
    refine (CoreOp.load _ s (by simpa using hbusy) (fun h4 => ?_) (fun hg => ?_) fun h4 => ?_).coreStep
    · simpa [h4] using hrun
    · simpa [hg] using hedit
    · simpa [h4] using hfixed

theorem certifyRule_coreStep : CoreStep s (certifyRule params s).state := by
  unfold certifyRule
  dsimp only
  split <;> [skip; split] <;> [skip; skip; split] <;> [skip; skip; skip; split] <;> [skip; skip; skip; skip; split]
  next => exact refuseLatched_coreStep s _
  next => exact refuseLatched_coreStep s _
  next => exact refuseLatched_coreStep s _
  next => exact refuseLatched_coreStep s _
  next => exact refuseLatched_coreStep s _
  next g _ hbusy hvalid => exact (CoreOp.certify g s (by simpa using hbusy) (by simpa using hvalid)).coreStep

theorem reportMaskRule_coreStep : CoreStep s (reportMaskRule params s).state := by
  unfold reportMaskRule accept
  dsimp only
  have masked : ∀ m, Quiet s { s with reportMask := m } := fun m => .same rfl rfl
  split
  · exact (masked _).coreStep
  · exact ((masked _).trans (requestReport_quiet _ _)).coreStep

theorem wakeRule_coreStep : CoreStep s (wakeRule s).state := by
  refine Quiet.coreStep ?_
  unfold wakeRule
  split
  · refine ⟨rfl, fun hs => { hs with nodes := fun k => ?_ }⟩
    have silent : (Vector.ofFn fun j : Fin 16 => { s.nodes[j] with lastArrival := none })[k] =
        { s.nodes[k] with lastArrival := none } := by simp
    exact silent ▸ hs.nodes k
  · exact .refl s

theorem bypassRule_coreStep : CoreStep s (bypassRule s).state := by
  refine Quiet.coreStep ?_
  unfold bypassRule
  split <;> exact .same rfl rfl

theorem seekRule_coreStep : CoreStep s (seekRule params s).state := by
  refine Quiet.coreStep ?_
  unfold seekRule
  split <;> exact .same rfl rfl

theorem readReply_coreStep (n : Nat) : CoreStep s (readReply n s).state :=
  Quiet.coreStep (.same rfl rfl)

theorem readRule_coreStep : CoreStep s (readRule params s).state := by
  unfold readRule
  split
  · exact (Quiet.refl s).coreStep
  · exact readReply_coreStep s _

end

/-! ## What each event does -/

/-- A frame at the down-port is observed, or quiet. -/
theorem arriveDown_coreStep (f : Frame) (s : State) : CoreStep s (arriveDown f s) := by
  unfold arriveDown
  have queued := (noteCheck_quiet f s).trans (forwardUp_quiet f _)
  split <;> [skip; split] <;> [skip; skip; (dsimp only; split)]
  · exact (countMalformed_quiet s).coreStep
  · exact ((countMalformed_quiet s).trans (forwardUp_quiet f _)).coreStep
  · exact (CoreOp.observe _ _ _).coreStep.before queued
  · exact queued.coreStep

/-- A restart trigger is a restart. -/
theorem triggerRestart_coreStep (cause : RestartCause) (s : State) : CoreStep s (triggerRestart cause s) :=
  (CoreOp.restart (sparesLevel cause) s).coreStep.after (by exact .same rfl rfl)

/-- What follows an answer is a restart, the entry into BYPASS, or nothing. -/
theorem transmissionEnded_coreStep (x : UpTransmission) (s : State) : CoreStep s (transmissionEnded x s) := by
  unfold transmissionEnded answerLeft
  split <;> [split; skip; skip] <;> [skip; split; skip; skip]
  · exact triggerRestart_coreStep _ s
  · exact (CoreOp.enterBypass s).coreStep
  · exact (Quiet.refl s).coreStep
  · exact (Quiet.refl s).coreStep
  · exact (Quiet.refl s).coreStep

/-- A break that does not complete the pattern leaves a count of 3 at most (R147). -/
theorem judgeBreak_le {count n : Nat} {pol : Polarity} {late : Bool} (h : judgeBreak count pol late = some n) :
    n ≤ 3 := by
  unfold judgeBreak at h
  split at h <;> cases h <;> omega

/-- A judged break is a restart or quiet. -/
theorem judgeAt_coreStep (pol : Polarity) (start stop : Nat) (s : State) : CoreStep s (judgeAt pol start stop s) := by
  unfold judgeAt
  split
  · exact (triggerRestart_coreStep _ _).before (by exact .pattern rfl rfl (Nat.zero_le 3))
  next n hn => exact Quiet.coreStep (.pattern rfl rfl (judgeBreak_le hn))

/-- START_UP from STARTING carries out its stages, and is quiet otherwise. -/
theorem execStartUp_coreStep (straps : BitVec 5) (e : Nat) {s t : State} (h : execStartUp straps e s = .next t) :
    CoreStep s t := by
  unfold execStartUp at h
  cases h
  split
  · have entered : ∀ u : State, Quiet u { u with engine := .active } := fun u => .same rfl rfl
    have active : ∀ u : State, Quiet u (activationStage u) := fun u =>
      (entered u).trans (requestReport_quiet (startReport { u with engine := .active }) { u with engine := .active })
    exact ((CoreOp.startUp straps e s).coreStep.after (active _)).after (startPorts_quiet _)
  · exact (Quiet.refl s).coreStep

/-- Every command carries out one operation at most. -/
theorem exec_coreStep (c : Instr) (s t : State) (h : exec c s = .next t) : CoreStep s t := by
  have quiet : ∀ u : State, Quiet s u → CoreStep s u := fun _ => Quiet.coreStep
  cases c
  case powerOn => cases h; exact (triggerRestart_coreStep _ s).after (startPorts_quiet _)
  case resetLine =>
    cases h
    exact ((triggerRestart_coreStep _ _).after (startPorts_quiet _)).before (by exact .same rfl rfl)
  case resetLineHeldLow =>
    cases h
    exact (CoreOp.restart false s).coreStep.after (by exact .same rfl rfl)
  case startUp straps e => exact execStartUp_coreStep straps e h
  case lineBreak pol start stop idle =>
    cases h
    split
    · have cut : Quiet s (repeatLevel pol start stop idle (cutUp s)) :=
        (cutUp_quiet s).trans (.same rfl rfl)
      exact ((judgeAt_coreStep pol start stop _).after (startPorts_quiet _)).before cut
    · exact quiet s (.refl s)
  case downPortArrival e f =>
    cases h
    split
    · exact ((arriveDown_coreStep f _).after (startPorts_quiet _)).before (by exact .same rfl rfl)
    · exact quiet s (.refl s)
  case upPortArrival f =>
    cases h
    split
    · exact CoreStep.before (by exact .pattern rfl rfl (Nat.zero_le 3)) ((arriveUp_quiet f _).coreStep.after (startPorts_quiet _))
    · exact quiet s (.refl s)
  case endOfTransmission =>
    simp only [exec, execEndOfTransmission] at h
    split at h <;> cases h
    · exact ((transmissionEnded_coreStep _ _).after (startPorts_quiet _)).before (by exact .same rfl rfl)
    · exact quiet s (.refl s)
  case downPortTransmissionEnd =>
    simp only [exec, execDownPortTransmissionEnd] at h
    split at h <;> cases h
    · exact CoreStep.before (by exact .same rfl rfl) (startPorts_quiet _).coreStep
    · exact quiet s (.refl s)
  case nodeSilence node e =>
    have passed : Quiet s (advance e s) := .same rfl rfl
    simp only [exec, execNodeSilence, Host.Outcome.next.injEq] at h
    subst h
    split
    · exact ((CoreOp.fallSilent node _).coreStep.after (startPorts_quiet _)).before passed
    · exact passed.coreStep
  case identify => cases h; exact runDirective_coreStep _ _ _ _ _ s fun t => (Quiet.refl t).coreStep
  case status => cases h; exact runDirective_coreStep _ _ _ _ _ s fun t => (Quiet.refl t).coreStep
  case statusClear => cases h; exact runDirective_coreStep _ _ _ _ _ s fun t => (statusClearRule_quiet _ t).coreStep
  case reportMask => cases h; exact runDirective_coreStep _ _ _ _ _ s fun t => reportMaskRule_coreStep _ t
  case restart =>
    cases h
    exact runDirective_coreStep _ _ _ _ _ s fun t =>
      Quiet.coreStep (.same rfl rfl)
  case bypass => cases h; exact runDirective_coreStep _ _ _ _ _ s bypassRule_coreStep
  case wake => cases h; exact runDirective_coreStep _ _ _ _ _ s wakeRule_coreStep
  case purgeEnable =>
    cases h
    exact runDirective_coreStep _ _ _ _ _ s fun t =>
      Quiet.coreStep (.same rfl rfl)
  case purge => cases h; exact runDirective_coreStep _ _ _ _ _ s fun t => purgeRule_coreStep t _
  case seek => cases h; exact runDirective_coreStep _ _ _ _ _ s fun t => seekRule_coreStep _ t
  case read => cases h; exact runDirective_coreStep _ _ _ _ _ s fun t => readRule_coreStep _ t
  case next => cases h; exact runDirective_coreStep _ _ _ _ _ s fun t => readReply_coreStep t 1
  case fieldMask =>
    cases h
    exact runDirective_coreStep _ _ _ _ _ s fun t =>
      Quiet.coreStep (.same rfl rfl)
  case write =>
    cases h
    split
    · exact runDirective_coreStep _ _ _ _ _ s fun t => (Quiet.refl t).coreStep
    · exact quiet s (.refl s)
  case slotMapWrite => cases h; exact runWrite_coreStep _ _ _ _ s fun t => slotMapRule_coreStep _ t
  case profileWrite => cases h; exact runWrite_coreStep _ _ _ _ s fun t => profileRule_coreStep _ _ t
  case curveWrite => cases h; exact runWrite_coreStep _ _ _ _ s fun t => curveRule_coreStep _ _ t
  case gradeRowWrite => cases h; exact runWrite_coreStep _ _ _ _ s fun t => gradeRowRule_coreStep _ _ t
  case bankMapWrite => cases h; exact runWrite_coreStep _ _ _ _ s fun t => bankMapRule_coreStep _ _ t
  case settingsWrite => cases h; exact runWrite_coreStep _ _ _ _ s fun t => settingsRule_coreStep _ _ t
  case editOpen => cases h; exact runDirective_coreStep _ _ _ _ _ s editOpenRule_coreStep
  case editClose => cases h; exact runDirective_coreStep _ _ _ _ _ s editCloseRule_coreStep
  case editCancel => cases h; exact runDirective_coreStep _ _ _ _ _ s editCancelRule_coreStep
  case admitModule => cases h; exact runDirective_coreStep _ _ _ _ _ s fun t => admitRule_coreStep _ t
  case withdraw => cases h; exact runDirective_coreStep _ _ _ _ _ s fun t => withdrawRule_coreStep _ t
  case clearFigures => cases h; exact runDirective_coreStep _ _ _ _ _ s fun t => clearFiguresRule_coreStep _ t
  case planRun => cases h; exact runDirective_coreStep _ _ _ _ _ s planRunRule_coreStep
  case planHold => cases h; exact runDirective_coreStep _ _ _ _ _ s planHoldRule_coreStep
  case planResume => cases h; exact runDirective_coreStep _ _ _ _ _ s planResumeRule_coreStep
  case planAbort => cases h; exact runDirective_coreStep _ _ _ _ _ s planAbortRule_coreStep
  case opening =>
    simp only [exec, execOpening] at h
    split at h <;> [split at h; skip] <;> cases h
    next r hr _ _ _ i _ hc hi => exact (CoreOp.opening r i s hr hc hi).coreStep
    all_goals exact quiet s (.refl s)
  case filling =>
    simp only [exec, execFilling] at h
    split at h <;> [split at h; skip] <;> cases h
    next r hr _ _ c _ hc => exact (CoreOp.filling r c s hr hc).coreStep
    all_goals exact quiet s (.refl s)
  case completion =>
    simp only [exec, execCompletion] at h
    split at h <;> [split at h; skip] <;> cases h
    next r hr _ _ _ _ hc hn =>
      refine CoreStep.after ?_ (startPorts_quiet _)
      split
      · exact (CoreOp.discard r s hr).coreStep
      next hd => exact (CoreOp.adopt r s hr (by simpa using hd) hc hn).coreStep
    all_goals exact quiet s (.refl s)
  case fix => cases h; exact runDirective_coreStep _ _ _ _ _ s fun t => fixRule_coreStep _ t
  case unfix => cases h; exact runDirective_coreStep _ _ _ _ _ s fun t => unfixRule_coreStep _ t
  case fixAll => cases h; exact runDirective_coreStep _ _ _ _ _ s fixAllRule_coreStep
  case unfixAll => cases h; exact runDirective_coreStep _ _ _ _ _ s unfixAllRule_coreStep
  case storeEnable =>
    cases h
    exact runDirective_coreStep _ _ _ _ _ s fun t =>
      Quiet.coreStep (.same rfl rfl)
  case storeDisable =>
    cases h
    exact runDirective_coreStep _ _ _ _ _ s fun t =>
      Quiet.coreStep (.same rfl rfl)
  case storeSave => cases h; exact runDirective_coreStep _ _ _ _ _ s fun t => storeSaveRule_coreStep _ t
  case saveCompletion =>
    simp only [exec, execSaveCompletion] at h
    split at h <;> cases h
    next c hc =>
      refine CoreStep.after ?_ ((requestReport_quiet _ _).trans (startPorts_quiet _))
      exact (CoreOp.saved c s hc).coreStep.after (by exact .same rfl rfl)
    all_goals exact quiet s (.refl s)
  case storeLoad => cases h; exact runDirective_coreStep _ _ _ _ _ s fun t => storeLoadRule_coreStep _ t
  case certify => cases h; exact runDirective_coreStep _ _ _ _ _ s fun t => certifyRule_coreStep _ t
  case certifyCompletion =>
    simp only [exec, execCertifyCompletion] at h
    split at h <;> cases h
    next g hg =>
      refine CoreStep.after ?_ ((requestReport_quiet _ _).trans (startPorts_quiet _))
      exact (CoreOp.certified g s hg).coreStep.after (by exact .same rfl rfl)
    all_goals exact quiet s (.refl s)
  case unknown tag payload =>
    simp only [exec, execUnknown, Host.Outcome.next.injEq] at h
    subst h
    split <;> [split; skip]
    next => exact quiet s (.refl s)
    next u hu =>
      have taken : Quiet s (consumeMarks u) := Taken.quiet ((taken_iff _ _ _).2 ⟨u, hu, rfl⟩)
      exact quiet _ ((taken.trans (answerUnknown_quiet tag payload _)).trans (startPorts_quiet _))
    next => exact quiet s (.refl s)
  case startSymbol port =>
    cases h
    split <;> [cases port; skip]
    · exact quiet _ (.pattern rfl rfl (Nat.zero_le 3))
    · exact quiet _ (.same rfl rfl)
    · exact quiet s (.refl s)
  case departureFromIdle pol start stop idle =>
    cases h
    split
    · exact CoreStep.before (by exact .same rfl rfl) (startPorts_quiet _).coreStep
    · exact quiet s (.refl s)
  case breakAtDnRx =>
    cases h
    split
    · have ended : Quiet s { s with dnReceiving := false } := .same rfl rfl
      exact quiet _ (ended.trans (countMalformed_quiet _))
    · exact quiet s (.refl s)

/-- A step carries out one operation at most. -/
theorem step_coreStep {s t : State} (h : step s = .next t) : CoreStep s t := by
  unfold step at h
  split at h
  · cases h; exact (Quiet.refl s).coreStep
  · exact (exec_coreStep _ _ _ h).before (by exact .same rfl rfl)

/-- A property that quiet changes and operations keep is kept by every step. -/
theorem step_keeps {P : State → Prop} (quiet : ∀ s t, Quiet s t → P s → P t)
    (op : ∀ s t, CoreOp s t → P s → P t) (s t : State) (hs : P s) (h : step s = .next t) : P t :=
  (step_coreStep h).keeps quiet op hs

end Sys2Proof.Machine
end

section
/-! SUPPORT. The operations on the slot map, the bank map, the grade table, the edit window and the store, apart from the work on
slots, places and runs that leaves those tables; the proofs of O55 to O58. -/

namespace Sys2Proof.Machine

/-! ## Work that leaves the tables -/

/-- `t` has the tables, the bank map and the store of `s`, and a run only where one was or the window was closed. -/
structure TablesKept (s t : State) : Prop where
  window : t.window = s.window
  slotMap : t.slotMap = s.slotMap
  rows : t.rows = s.rows
  origin : t.origin = s.origin
  modified : t.modified = s.modified
  store : t.store = s.store
  storeWork : t.storeWork = s.storeWork
  bank : t.bank = s.bank
  run : t.run ≠ none → s.run ≠ none ∨ s.window = none

theorem TablesKept.refl (s : State) : TablesKept s s := ⟨rfl, rfl, rfl, rfl, rfl, rfl, rfl, rfl, .inl⟩

theorem TablesKept.trans {s t u : State} (h : TablesKept s t) (k : TablesKept t u) : TablesKept s u where
  window := k.window.trans h.window
  slotMap := k.slotMap.trans h.slotMap
  rows := k.rows.trans h.rows
  origin := k.origin.trans h.origin
  modified := k.modified.trans h.modified
  store := k.store.trans h.store
  storeWork := k.storeWork.trans h.storeWork
  bank := k.bank.trans h.bank
  run hu := (k.run hu).elim h.run fun hw => .inr (h.window.symm.trans hw)

/-- A change outside the core leaves the tables. -/
theorem TablesKept.of_core {s t : State} (h : t.core = s.core) : TablesKept s t := by
  simp only [State.core, CoreFields.mk.injEq] at h
  obtain ⟨window, slotMap, rows, origin, modified, -, bank, -, -, run, store, storeWork⟩ := h
  exact ⟨window, slotMap, rows, origin, modified, store, storeWork, bank, fun hr => .inl (run ▸ hr)⟩

/-- Quiet changes leave the tables. -/
theorem Quiet.tablesKept {s t : State} (h : Quiet s t) : TablesKept s t := .of_core h.core

/-- Work on slots, places and reports leaves the tables when no run appears. -/
theorem SlotWork.tablesKept {s t : State} (h : SlotWork s t) (hr : t.run ≠ none → s.run ≠ none) : TablesKept s t := by
  constructor <;> first | exact fun h => .inl (hr h) | simp only [h.fields]

/-- A disturbed run existed before. -/
theorem Disturbed.run_ne_none {s t : State} (h : Disturbed s t) (ht : t.run ≠ none) : s.run ≠ none := by
  rw [← Option.isSome_iff_ne_none] at ht ⊢
  exact h.isSome ▸ ht

theorem Regraded.tablesKept {s t : State} (h : Regraded s t) : TablesKept s t := h.work.tablesKept h.run.run_ne_none

theorem Worked.tablesKept {i : SlotNo} {s t : State} (h : Worked i s t) : TablesKept s t :=
  h.work.tablesKept h.run.run_ne_none

theorem BankWork.tablesKept {s t : State} (h : BankWork s t) : TablesKept s t :=
  h.slotWork.tablesKept fun hr => by simpa only [h.fields] using hr

/-- A fold of work that leaves the tables leaves them. -/
theorem TablesKept.foldl {α : Type} (f : State → α → State) (h : ∀ s a, TablesKept s (f s a)) (l : List α) (s : State) :
    TablesKept s (l.foldl f s) :=
  List.foldlRecOn l f (TablesKept.refl s) fun u hu a _ => hu.trans (h u a)

/-! ## Each operation on slots, places and runs -/

theorem updateNode_tablesKept (node : Nat) (f : NodeEntry → NodeEntry) (s : State) :
    TablesKept s (updateNode node f s) := by
  rw [updateNode_eq]
  exact TablesKept.of_core rfl

theorem resetSegments_tablesKept (i : SlotNo) (s : State) : TablesKept s (resetSegments i s) :=
  (updateSlot_worked i resetTracker s).tablesKept

theorem resetNamed_tablesKept (v : Option SlotNo) (s : State) : TablesKept s (resetNamed v s) := by
  cases v with
  | none => exact .refl s
  | some i => exact resetSegments_tablesKept i s

theorem workEntry_tablesKept (node : Nat) (payload : List Byte) (k : Nat) (s : State) :
    TablesKept s (workEntry node payload k s) := by
  rcases workEntry_worked node payload k s with h | ⟨i, h⟩
  · rw [h]; exact .refl s
  · exact h.tablesKept

theorem observe_tablesKept (node : Nat) (payload : List Byte) (s : State) : TablesKept s (observe node payload s) := by
  unfold observe
  split
  · exact (updateNode_tablesKept _ _ s).trans (countMalformed_quiet _).tablesKept
  · exact (updateNode_tablesKept node _ s).trans
      (TablesKept.foldl (fun u k => workEntry node payload k u) (fun u k => workEntry_tablesKept node payload k u) _ _)

theorem fallSilent_tablesKept (node : Nat) (s : State) : TablesKept s (fallSilent node s) := by
  let u := updateNode node (fun e => { e with silent := true }) s
  let v := (nodeSlots u node).foldl (fun s i => resetSegments i s) u
  have noted : TablesKept s u := updateNode_tablesKept node _ s
  have reset : TablesKept u v := TablesKept.foldl _ (fun t i => resetSegments_tablesKept i t) (nodeSlots u node) u
  have told : TablesKept v (fallSilent node s) :=
    (requestReport_quiet (.silent node (silentNodes v)) v).tablesKept
  exact (noted.trans reset).trans told

/-- Changing the records of slots leaves the tables. -/
theorem mapSlots_tablesKept (f : SlotNo → ModuleRecord → ModuleRecord) (s : State) : TablesKept s (mapSlots f s) := by
  refine ⟨?_, ?_, ?_, ?_, ?_, ?_, ?_, ?_, fun hr => .inl (by simpa only [mapSlots_fields] using hr)⟩ <;>
    simp only [mapSlots_fields]

/-- Ending a run leaves the tables. -/
theorem endRun_tablesKept (s : State) : TablesKept s { s with run := none } :=
  ⟨rfl, rfl, rfl, rfl, rfl, rfl, rfl, rfl, fun h => absurd rfl h⟩

theorem planReport_tablesKept (outcome : PlanOutcome) (rerun : Bool) (s : State) :
    TablesKept s (planReport outcome rerun s) := (requestReport_quiet _ s).tablesKept

theorem abortRun_tablesKept (s : State) : TablesKept s (abortRun s) := by
  unfold abortRun
  split
  · exact .refl s
  · exact (endRun_tablesKept s).trans (planReport_tablesKept _ _ _)

theorem enterBypass_tablesKept (s : State) : TablesKept s (enterBypass s) := by
  have entered : ∀ u : State, TablesKept u { u with engine := .bypass, takingSuspended := false } := fun u =>
    TablesKept.of_core rfl
  exact ((abortRun_tablesKept s).trans (mapSlots_tablesKept _ _)).trans (entered _)

theorem purgeAll_tablesKept (s : State) : TablesKept s (purgeAll s) := by
  refine TablesKept.trans ?vacated (TablesKept.trans
    (TablesKept.foldl _ (fun u i => TablesKept.of_core (t := removeReports i u) rfl) (purgedSlots s) _)
    (BankWork.tablesKept (s := (purgedSlots s).foldl (fun u i => removeReports i u) _) rfl))
  exact SlotWork.tablesKept rfl id

theorem withdrawSlot_tablesKept (i : SlotNo) (s : State) : TablesKept s (withdrawSlot i s) :=
  ((leavePlace_worked i s).tablesKept.trans (disturbFor_worked i _).tablesKept).trans
    (SlotWork.tablesKept (t := withdrawSlot i s) rfl id)

theorem clearSlotFigures_worked (i : SlotNo) (named : List FigureKind) (s : State) :
    Worked i s (clearSlotFigures i named s) :=
  (((((updateSlot_worked i _ s).trans (updateSlot_worked i resetTracker _)).trans (requestReport_worked i _ _)).trans
    (disturbFor_worked i _)).trans (evaluateSlot_worked i _)).trans (.ite (reviewTest_worked i _) (.refl i _))

/-- Where a run exists, another one in its place leaves the tables. -/
theorem setRun_tablesKept {s : State} {r : PlanningRun} (hr : s.run = some r) (r' : Option PlanningRun) :
    TablesKept s { s with run := r' } :=
  ⟨rfl, rfl, rfl, rfl, rfl, rfl, rfl, rfl, fun _ => .inl (by simp [hr])⟩

theorem discardRun_tablesKept {r : PlanningRun} {s : State} (hr : s.run = some r) : TablesKept s (discardRun r s) := by
  unfold discardRun
  split
  · exact (endRun_tablesKept s).trans (planReport_tablesKept _ _ _)
  · exact (setRun_tablesKept hr _).trans (planReport_tablesKept _ _ _)

/-- The three passes of an adoption work on places and string records. -/
theorem adoptPlaces_work (entries : List TentativeEntry) (s : State) : BankWork s (adoptPlaces entries s) := by
  refine ((BankWork.foldl _ (fun u e => (emptyString_facts u e.string).1) entries s).trans
    (BankWork.foldl _ (fun u e => ?_) entries _)).trans (BankWork.foldl adoptRecord (fun _ _ => rfl) entries _)
  rw [fillStringPlaces_eq]
  exact (assign_work _ u).1

theorem adoptRun_tablesKept (r : PlanningRun) (s : State) : TablesKept s (adoptRun r s) :=
  ((adoptPlaces_work r.tentative s).tablesKept.trans (endRun_tablesKept _)).trans (planReport_tablesKept _ _ _)

/-- Striking entries or disturbing the run leaves the tables. -/
theorem mapRun_tablesKept (f : PlanningRun → PlanningRun) (s : State) : TablesKept s { s with run := s.run.map f } :=
  SlotWork.tablesKept rfl fun h => by simpa using h

theorem disturbIfProcessed_tablesKept (i : StringNo) (s : State) : TablesKept s (disturbIfProcessed i s) := by
  unfold disturbIfProcessed
  split
  · exact mapRun_tablesKept _ s
  · exact .refl s

theorem updateSlots_tablesKept (is : List SlotNo) (f : ModuleRecord → ModuleRecord) (s : State) :
    TablesKept s (updateSlots is f s) :=
  TablesKept.foldl _ (fun u i => (updateSlot_worked i f u).tablesKept) is s

theorem fixPosition_tablesKept (i : StringNo) (pos : Nat) (s : State) : TablesKept s (fixPosition i pos s) :=
  ((updatePlaces_work _ _ s).tablesKept.trans (updateSlots_tablesKept _ _ _)).trans (BankWork.tablesKept rfl)

theorem unfixPosition_tablesKept (i : StringNo) (pos : Nat) (s : State) : TablesKept s (unfixPosition i pos s) :=
  ((updatePlaces_work _ _ s).tablesKept.trans (updateSlots_tablesKept _ _ _)).trans
    (TablesKept.foldl _ (fun u k => (applyEligibility_work k u).tablesKept) _ _)

theorem fixWithRun_tablesKept (i : StringNo) (pos : Nat) (s : State) : TablesKept s (fixWithRun i pos s) :=
  ((fixPosition_tablesKept i pos s).trans (mapRun_tablesKept _ _)).trans (disturbIfProcessed_tablesKept i _)

theorem unfixWithRun_tablesKept (i : StringNo) (pos : Nat) (s : State) : TablesKept s (unfixWithRun i pos s) :=
  (unfixPosition_tablesKept i pos s).trans (disturbIfProcessed_tablesKept i _)

theorem fixIfFilled_tablesKept (acc : State × Nat) (at_ : StringNo × Nat) : TablesKept acc.1 (fixIfFilled acc at_).1 := by
  unfold fixIfFilled
  split
  · exact fixPosition_tablesKept _ _ _
  · exact .refl _

theorem unfixIfFixed_tablesKept (acc : State × Nat) (at_ : StringNo × Nat) :
    TablesKept acc.1 (unfixIfFixed acc at_).1 := by
  unfold unfixIfFixed
  split
  · exact unfixPosition_tablesKept _ _ _
  · exact .refl _

theorem fixAll_tablesKept (l : List (StringNo × Nat)) (s : State) : TablesKept s (l.foldl fixIfFilled (s, 0)).1 :=
  List.foldlRecOn (motive := fun acc => TablesKept s acc.1) l _ (.refl s) fun acc h a _ =>
    h.trans (fixIfFilled_tablesKept acc a)

theorem unfixAll_tablesKept (l : List (StringNo × Nat)) (s : State) : TablesKept s (l.foldl unfixIfFixed (s, 0)).1 :=
  List.foldlRecOn (motive := fun acc => TablesKept s acc.1) l _ (.refl s) fun acc h a _ =>
    h.trans (unfixIfFixed_tablesKept acc a)

/-! ## The operations on the tables -/

/-- The operations on the slot map, the bank map, the grade table, the edit window and the store. -/
inductive TableOp : State → State → Prop where
  | idle (s : State) : TableOp s s
  | restart (s : State) : TableOp s { s with run := none, storeWork := none }
  | startUp (rows : GradeTable) (origin : Option GradeImage) (s : State) :
      (∀ g, origin = some g → s.store.grades[g] = some rows) →
      TableOp s { s with
        run := none, storeWork := none, window := none, rows := rows, origin := origin, modified := false
        slotMap := s.store.slotMap.getD (Vector.replicate 128 none)
        bank := s.store.bank.getD (Vector.replicate 8 BankString.default) }
  | bankMap (index : Nat) (b : BankString) (s : State) : b.first + b.span ≤ 64 →
      overlapsAnother s.bank index b = false → TableOp s { s with bank := s.bank.setIfInBounds index b }
  | loadBank (b : BankMap) (s : State) : s.store.bank = some b → TableOp s { s with bank := b }
  | mapEntry (index : Nat) (v : Option SlotNo) (s : State) :
      (∀ i, v = some i → namedElsewhere s.slotMap index i = false) →
      TableOp s { s with slotMap := s.slotMap.setIfInBounds index v }
  | gradeRow (index : Nat) (r : GradeRow) (s : State) : s.window.isSome = true → TableOp s (storeRow index r s)
  | editOpen (s : State) : s.run = none → s.window = none →
      TableOp s { s with window := some { written := false, shadow := s.rows } }
  | editClose (w : EditWindow) (s : State) : s.window = some w →
      TableOp s { s with window := none, modified := s.modified || w.written }
  | editCancel (w : EditWindow) (s : State) : s.window = some w →
      TableOp s { s with window := none, rows := w.shadow }
  | save (n : Nat) (c : SavedContent) (s : State) : contentFor s n = some c → imageCertified s.store n = false →
      (isGradeImage n = true → s.window = none) → TableOp s (beginSave c s)
  | saved (c : SavedContent) (s : State) : s.storeWork = some (.save c) →
      TableOp s { s with store := writeImage c s.store, storeWork := none }
  | loadMap (map : Vector (Option SlotNo) 128) (s : State) : s.store.slotMap = some map →
      TableOp s { s with slotMap := map }
  | loadGrades (g : GradeImage) (rows : GradeTable) (s : State) : s.storeWork = none → s.window = none →
      s.store.grades[g] = some rows → TableOp s { s with rows := rows, origin := some g, modified := false }
  | certify (g : GradeImage) (s : State) : s.storeWork = none → s.store.grades[g] ≠ none →
      TableOp s { s with storeWork := some (.certify g) }
  | certified (g : GradeImage) (s : State) : s.storeWork = some (.certify g) →
      TableOp s { s with store := certifyImage g s.store, storeWork := none }

/-- Restoring the install image leaves the tables. -/
theorem restoreInstall_tablesKept (s : State) : TablesKept s (restoreInstall s) := by
  unfold restoreInstall
  split <;> [skip; split]
  · exact ⟨rfl, rfl, rfl, rfl, rfl, rfl, rfl, rfl, .inl⟩
  · rw [restoreRecords_eq, restoreFold_work]
    exact ⟨rfl, rfl, rfl, rfl, rfl, rfl, rfl, rfl, .inl⟩
  · exact ⟨rfl, rfl, rfl, rfl, rfl, rfl, rfl, rfl, .inl⟩

/-- Stage 3 of start-up leaves the tables. -/
theorem slotsStage_tablesKept (s : State) : TablesKept s (slotsStage s) := by
  have vacated : TablesKept s { s with slots := Vector.replicate 64 none, places := Vector.replicate 64 Place.empty } :=
    ⟨rfl, rfl, rfl, rfl, rfl, rfl, rfl, rfl, .inl⟩
  exact (vacated.trans (restoreInstall_tablesKept _)).trans ⟨rfl, rfl, rfl, rfl, rfl, rfl, rfl, rfl, .inl⟩

/-- Start-up takes the tables from the images, and loses the run, the window and the store work. -/
theorem startUp_tables (straps : BitVec 5) (e : Nat) (s : State) :
    ∃ rows origin, (∀ g, origin = some g → s.store.grades[g] = some rows) ∧
      TablesKept { s with
        run := none, storeWork := none, window := none, rows := rows, origin := origin, modified := false
        slotMap := s.store.slotMap.getD (Vector.replicate 128 none)
        bank := s.store.bank.getD (Vector.replicate 8 BankString.default) }
        (slotsStage (loadingStage straps (clearingStage e s))) := by
  let u := loadingStage straps (clearingStage e s)
  have rows : ∀ g, u.origin = some g → s.store.grades[g] = some u.rows := by
    simp only [u, loadingStage, formAddress, loadBootTable]
    split
    next found =>
      simp only [Option.bind_eq_some_iff, Option.map_eq_some_iff, Prod.mk.injEq] at found
      obtain ⟨g, -, rows, hrows, rfl, rfl⟩ := found
      rintro _ ⟨⟩
      exact hrows
    next => exact nofun
  refine ⟨u.rows, u.origin, rows, TablesKept.trans ?_ (slotsStage_tablesKept u)⟩
  have loaded : u = { u with rows := u.rows } := rfl
  have fixedFields : u.window = none ∧ u.slotMap = s.store.slotMap.getD (Vector.replicate 128 none) ∧
      u.modified = false ∧ u.store = s.store ∧ u.storeWork = none ∧
      u.bank = s.store.bank.getD (Vector.replicate 8 BankString.default) ∧ u.run = none := by
    simp only [u, loadingStage, formAddress, loadBootTable]
    split <;> exact ⟨rfl, rfl, rfl, rfl, rfl, rfl, rfl⟩
  obtain ⟨window, slotMap, modified, store, storeWork, bank, run⟩ := fixedFields
  exact ⟨window, slotMap, rfl, rfl, modified, store, storeWork, bank, fun h => absurd run h⟩

/-- Loading an image is an operation on the tables, with the work on slots and places it brings. -/
theorem loadImage_tables (n : Nat) (s : State) (hwork : s.storeWork = none)
    (hedit : isGradeImage n = true → s.window = none) :
    ∃ u, TableOp s u ∧ TablesKept u (loadImage n s) := by
  have none_ : ∃ u, TableOp s u ∧ TablesKept u s := ⟨s, .idle s, .refl s⟩
  unfold loadImage
  split <;> [split; split; split; split; split]
  · exact ⟨s, .idle s, TablesKept.of_core rfl⟩
  · exact none_
  · exact ⟨s, .idle s, ⟨rfl, rfl, rfl, rfl, rfl, rfl, rfl, rfl, .inl⟩⟩
  · exact none_
  next map hmap =>
    refine ⟨_, .loadMap map s hmap, TablesKept.foldl _ (fun u k => ?_) _ _⟩
    split
    · exact .refl u
    · exact (resetNamed_tablesKept _ u).trans (resetNamed_tablesKept _ _)
  · exact none_
  next b hb => exact ⟨_, .loadBank b s hb, ⟨rfl, rfl, rfl, rfl, rfl, rfl, rfl, rfl, .inl⟩⟩
  · exact none_
  · exact none_
  next g hg =>
    split
    next rows hrows =>
      exact ⟨_, .loadGrades g rows s hwork (hedit (by simp [isGradeImage, hg])) hrows,
        (evaluateAll_regraded _).tablesKept⟩
    next => exact none_

/-- An operation on the core is one on the tables, and work that leaves the tables after it. -/
theorem CoreOp.tables {s t : State} (h : CoreOp s t) : ∃ u, TableOp s u ∧ TablesKept u t := by
  have kept : TablesKept s t → ∃ u, TableOp s u ∧ TablesKept u t := fun h => ⟨s, .idle s, h⟩
  have same : TableOp s t → ∃ u, TableOp s u ∧ TablesKept u t := fun h => ⟨t, h, .refl t⟩
  cases h
  case idle => exact kept (.refl s)
  case restart spare => exact ⟨_, .restart s, TablesKept.of_core rfl⟩
  case startUp straps e =>
    obtain ⟨rows, origin, hrows, hkept⟩ := startUp_tables straps e s
    exact ⟨_, .startUp rows origin s hrows, hkept⟩
  case observe => exact kept (observe_tablesKept _ _ s)
  case fallSilent => exact kept (fallSilent_tablesKept _ s)
  case enterBypass => exact kept (enterBypass_tablesKept s)
  case purge => exact kept (purgeAll_tablesKept s)
  case mapEntry index v hv =>
    unfold assignEntry
    dsimp only
    split
    · exact ⟨s, .idle s, .refl s⟩
    · exact ⟨_, .mapEntry index v s hv, (resetNamed_tablesKept _ _).trans (resetNamed_tablesKept _ _)⟩
  case resetSegments which => exact kept (mapSlots_tablesKept _ s)
  case gradeRow index r hw => exact same (.gradeRow index r s hw)
  case bankMap =>
    exact ⟨_, .bankMap _ _ s ‹_› ‹_›, ⟨rfl, rfl, rfl, rfl, rfl, rfl, rfl, rfl, .inl⟩⟩
  case editOpen hw hr _ => exact same (.editOpen s hr hw)
  case editClose w hw => exact ⟨_, .editClose w s hw, (evaluateAll_regraded _).tablesKept⟩
  case editCancel w hw => exact ⟨_, .editCancel w s hw, (evaluateAll_regraded _).tablesKept⟩
  case admitted => exact kept ⟨rfl, rfl, rfl, rfl, rfl, rfl, rfl, rfl, .inl⟩
  case withdraw => exact kept (withdrawSlot_tablesKept _ s)
  case clearFigures i named => exact kept (clearSlotFigures_worked i named s).tablesKept
  case planRun hw => exact kept ⟨rfl, rfl, rfl, rfl, rfl, rfl, rfl, rfl, fun _ => .inr hw⟩
  case runMode hr => exact kept (setRun_tablesKept hr _)
  case abort => exact kept (abortRun_tablesKept s)
  case opening => exact kept (setRun_tablesKept ‹s.run = some _› _)
  case filling => exact kept (setRun_tablesKept ‹s.run = some _› _)
  case discard hr => exact kept (discardRun_tablesKept hr)
  case adopt => exact kept (adoptRun_tablesKept _ s)
  case fix => exact kept (fixWithRun_tablesKept _ _ s)
  case unfix => exact kept (unfixWithRun_tablesKept _ _ s)
  case fixAll => exact kept (fixAll_tablesKept _ s)
  case unfixAll => exact kept (unfixAll_tablesKept _ s)
  case save n c hc hcert _ hedit => exact same (.save n c s hc hcert hedit)
  case saved c hc => exact same (.saved c s hc)
  case load n hwork _ hedit _ => exact loadImage_tables n s hwork hedit
  case certify g hwork hg => exact same (.certify g s hwork hg)
  case certified g hg => exact same (.certified g s hg)

/-- A property of the tables that every operation on them keeps is kept by every step. -/
theorem step_keeps_tables {P : State → Prop} (kept : ∀ s t, TablesKept s t → P s → P t)
    (op : ∀ s t, TableOp s t → P s → P t) (s t : State) (hs : P s) (h : step s = .next t) : P t :=
  step_keeps (fun u v huv => kept u v huv.tablesKept)
    (fun u v huv hu => let ⟨_, hop, hkept⟩ := huv.tables; kept _ v hkept (op u _ hop hu)) s t hs h

/-! ## The run and the window -/

/-- Settles O55: a run starts only with the window closed, and the window opens only without a run. -/
theorem runAndWindowStayApart : Obligations.RunAndWindowStayApart := by
  refine step_keeps_tables (fun s t h hs ht => ?kept) fun s t h hs => ?op
  case kept => exact h.window.trans ((h.run ht).elim hs id)
  cases h
  case idle => exact hs
  case restart => exact fun h => absurd rfl h
  case startUp => exact fun _ => rfl
  case bankMap => exact hs
  case loadBank => exact hs
  case mapEntry => exact hs
  case gradeRow hw => exact fun hr => absurd (hs hr) (Option.isSome_iff_ne_none.1 hw)
  case editOpen hr _ => exact fun h => absurd hr h
  case editClose => exact fun _ => rfl
  case editCancel => exact fun _ => rfl
  case save => exact hs
  case saved => exact hs
  case loadMap => exact hs
  case loadGrades => exact hs
  case certify => exact hs
  case certified => exact hs

/-! ## The slot maps -/

theorem mapInjective_replicate : mapInjective (Vector.replicate 128 none) := fun a b i h => by simp at h

/-- No other entry names the slot. -/
theorem namedElsewhere_eq_false_iff (map : Vector (Option SlotNo) 128) (index : Nat) (i : SlotNo) :
    namedElsewhere map index i = false ↔ ∀ k : Fin 128, k.val ≠ index → map[k] ≠ some i := by
  simp [namedElsewhere]

/-- Naming a slot that no other entry names keeps a map injective. -/
theorem mapInjective_set {map : Vector (Option SlotNo) 128} (h : mapInjective map) {index : Nat} {v : Option SlotNo}
    (hv : ∀ i, v = some i → namedElsewhere map index i = false) : mapInjective (map.setIfInBounds index v) := by
  intro a b i ha hb
  simp only [Fin.getElem_fin, Vector.getElem_setIfInBounds] at ha hb
  have other : ∀ k : Fin 128, index ≠ k.val → v = some i → map[k.val] ≠ some i := fun k hk hvi =>
    (namedElsewhere_eq_false_iff map index i).1 (hv i hvi) k hk.symm
  split at ha <;> split at hb
  next hia hib => exact Fin.ext (hia.symm.trans hib)
  next hib => exact absurd hb (other b hib ha)
  next hia _ => exact absurd ha (other a hia hb)
  next => exact h a b i ha hb

/-- The content copied for the slot map is the working map. -/
theorem contentFor_slotMap {s : State} {n : Nat} {c : Vector (Option SlotNo) 128}
    (h : contentFor s n = some (.slotMap c)) : c = s.slotMap := by
  unfold contentFor at h
  split at h <;> simp_all

/-- Settles O56: an entry takes a slot that no other entry names, and the map travels whole between the working copy, a
save and the image. -/
theorem slotMapsStayInjective : Obligations.SlotMapsStayInjective := by
  refine step_keeps_tables (fun s t h hs => ?kept) fun s t h hs => ?op
  case kept =>
    exact ⟨h.slotMap ▸ hs.working, h.store ▸ hs.stored, h.storeWork ▸ hs.saving⟩
  obtain ⟨working, stored, saving⟩ := hs
  cases h
  case idle => exact ⟨working, stored, saving⟩
  case restart => exact ⟨working, stored, nofun⟩
  case startUp =>
    refine ⟨?_, stored, nofun⟩
    change mapInjective (s.store.slotMap.getD _)
    cases hmap : s.store.slotMap with
    | none => exact mapInjective_replicate
    | some c => exact stored c hmap
  case bankMap => exact ⟨working, stored, saving⟩
  case loadBank => exact ⟨working, stored, saving⟩
  case mapEntry hv => exact ⟨mapInjective_set working hv, stored, saving⟩
  case gradeRow => exact ⟨working, stored, saving⟩
  case editOpen => exact ⟨working, stored, saving⟩
  case editClose => exact ⟨working, stored, saving⟩
  case editCancel => exact ⟨working, stored, saving⟩
  case save n c hc _ _ =>
    refine ⟨working, fun m hm => ?_, fun m hm => ?_⟩
    · cases c <;> first | exact stored m hm | cases hm
    · cases hm
      rw [contentFor_slotMap hc]
      exact working
  case saved c hc =>
    refine ⟨working, fun m hm => ?_, nofun⟩
    cases c
    case slotMap => cases hm; exact saving _ hc
    all_goals exact stored m hm
  case loadMap map hmap => exact ⟨stored map hmap, stored, saving⟩
  case loadGrades => exact ⟨working, stored, saving⟩
  case certify => exact ⟨working, stored, nofun⟩
  case certified => exact ⟨working, stored, nofun⟩

/-! ## Certification -/

/-- The rows settled while the window is closed are the rows. -/
theorem settledRows_of_closed {s : State} (h : s.window = none) : settledRows s = s.rows := by
  simp only [settledRows, h]

/-- The rows settled while the window is open are its shadow copy. -/
theorem settledRows_of_open {s : State} {w : EditWindow} (h : s.window = some w) : settledRows s = w.shadow := by
  simp only [settledRows, h]

/-- A grade table is copied for the image of its number, from the rows as they stand. -/
theorem contentFor_grades {s : State} {n : Nat} {g : GradeImage} {c : GradeTable}
    (h : contentFor s n = some (.grades g c)) : gradeImage n = some g ∧ c = s.rows := by
  unfold contentFor at h
  split at h <;> simp_all

theorem TablesKept.settledRows {s t : State} (h : TablesKept s t) : settledRows t = Machine.settledRows s := by
  simp only [Machine.settledRows, h.window, h.rows]

theorem TablesKept.certifiedSound {s t : State} (h : TablesKept s t) (hs : CertifiedSound s) : CertifiedSound t where
  unwritten := by rw [h.window, h.rows]; exact hs.unwritten
  kept := by rw [h.origin, h.modified, h.store, h.settledRows]; exact hs.kept
  saving := by rw [h.storeWork, h.store, h.origin, h.modified, h.settledRows]; exact hs.saving
  certifying := by rw [h.storeWork, h.store]; exact hs.certifying
  certified := by rw [h.store]; exact hs.certified

/-- With no save or certify in progress, a table that its image agrees with is sound. -/
theorem CertifiedSound.of_idle {s : State} (idle : s.storeWork = none)
    (unwritten : ∀ w, s.window = some w → w.written = false → s.rows = w.shadow)
    (kept : ∀ g rows, s.origin = some g → s.modified = false → s.store.grades[g] = some rows → rows = settledRows s)
    (certified : ∀ g : GradeImage, s.store.certified[g] = true → s.store.grades[g] ≠ none) : CertifiedSound s where
  unwritten := unwritten
  kept := kept
  saving g c h := by rw [idle] at h; cases h
  certifying g h := by rw [idle] at h; cases h
  certified := certified

/-- Beginning a save keeps a sound table: an image that is certified is not erased. -/
theorem beginSave_certifiedSound {s : State} (hs : CertifiedSound s) {n : Nat} {c : SavedContent}
    (hc : contentFor s n = some c) (hcert : imageCertified s.store n = false)
    (hedit : isGradeImage n = true → s.window = none) : CertifiedSound (beginSave c s) := by
  cases c
  case grades g rows =>
    obtain ⟨hg, rfl⟩ := contentFor_grades hc
    have uncertified : s.store.certified[g] = false := by simpa only [imageCertified, hg] using hcert
    have closed : s.window = none := hedit (by simp [isGradeImage, hg])
    refine ⟨hs.unwritten, fun g' rows ho hm hr => ?_, fun g' rows h => ?_, nofun, fun g' hg' => ?_⟩
    · simp only [beginSave_fields, eraseImage, Fin.getElem_fin, Vector.getElem_set] at hr
      split at hr
      · cases hr
      · exact hs.kept g' rows ho hm hr
    · cases h
      exact ⟨uncertified, fun _ _ => (settledRows_of_closed closed).symm⟩
    · have other : ¬ g.val = g'.val := fun h => by
        obtain rfl := Fin.ext h
        simp only [beginSave_fields, eraseImage] at hg'
        rw [uncertified] at hg'
        cases hg'
      simp only [beginSave_fields, eraseImage, Fin.getElem_fin, Vector.getElem_set, if_neg other]
      exact hs.certified g' hg'
  all_goals exact ⟨hs.unwritten, hs.kept, nofun, nofun, hs.certified⟩

/-- A completed save keeps a sound table: the image takes what the table then held. -/
theorem writeImage_certifiedSound {s : State} (hs : CertifiedSound s) {c : SavedContent}
    (hc : s.storeWork = some (.save c)) :
    CertifiedSound { s with store := writeImage c s.store, storeWork := none } := by
  refine .of_idle rfl hs.unwritten ?kept ?certified
  case kept =>
    cases c
    case grades g rows =>
      intro g' rows' ho hm hr
      simp only [writeImage, Fin.getElem_fin, Vector.getElem_set] at hr
      split at hr
      next hgg =>
        cases hr
        exact (hs.saving g rows hc).2 (Fin.ext hgg ▸ ho) hm
      next => exact hs.kept g' rows' ho hm hr
    all_goals exact hs.kept
  case certified =>
    cases c
    case grades g rows =>
      intro g' hg'
      simp only [writeImage, Fin.getElem_fin, Vector.getElem_set] at hg' ⊢
      split at hg'
      · cases hg'
      next hgg => rw [if_neg hgg]; exact hs.certified g' hg'
    all_goals exact hs.certified

/-- Every operation on the tables keeps a sound one. -/
theorem TableOp.certifiedSound {s t : State} (h : TableOp s t) (hs : CertifiedSound s) : CertifiedSound t := by
  cases h
  case idle => exact hs
  case restart => exact .of_idle rfl hs.unwritten hs.kept hs.certified
  case startUp rows origin hrows =>
    refine .of_idle rfl nofun (fun g rows' ho _ hr => ?_) hs.certified
    exact Option.some.inj (hr.symm.trans (hrows g ho))
  case bankMap => exact ⟨hs.unwritten, hs.kept, hs.saving, hs.certifying, hs.certified⟩
  case loadBank => exact ⟨hs.unwritten, hs.kept, hs.saving, hs.certifying, hs.certified⟩
  case mapEntry => exact ⟨hs.unwritten, hs.kept, hs.saving, hs.certifying, hs.certified⟩
  case gradeRow index r hw =>
    obtain ⟨w, hw⟩ := Option.isSome_iff_exists.1 hw
    have settled : settledRows (storeRow index r s) = settledRows s := by
      rw [settledRows_of_open hw]
      simp only [settledRows, storeRow_fields, hw, Option.map_some]
    refine ⟨fun w' hw' hun => ?_, ?_, ?_, hs.certifying, hs.certified⟩
    · simp only [storeRow_fields, hw, Option.map_some, Option.some.injEq] at hw'
      subst hw'
      cases hun
    · rw [settled]; exact hs.kept
    · rw [settled]; exact hs.saving
  case editOpen hr hw =>
    have settled : settledRows s = s.rows := settledRows_of_closed hw
    refine ⟨fun w h _ => ?_, ?_, ?_, hs.certifying, hs.certified⟩
    · cases h; rfl
    · intro g rows ho hm hg; exact (hs.kept g rows ho hm hg).trans settled
    · intro g c h; exact ⟨(hs.saving g c h).1, fun ho hm => ((hs.saving g c h).2 ho hm).trans settled⟩
  case editClose w hw =>
    have settled : (s.modified || w.written) = false → s.modified = false ∧ settledRows s = s.rows := fun h => by
      obtain ⟨hm, hun⟩ := Bool.or_eq_false_iff.1 h
      exact ⟨hm, (settledRows_of_open hw).trans (hs.unwritten w hw hun).symm⟩
    refine ⟨nofun, fun g rows ho hm hg => ?_, fun g c h => ⟨(hs.saving g c h).1, fun ho hm => ?_⟩, hs.certifying,
      hs.certified⟩
    · exact (hs.kept g rows ho (settled hm).1 hg).trans (settled hm).2
    · exact ((hs.saving g c h).2 ho (settled hm).1).trans (settled hm).2
  case editCancel w hw =>
    have settled : settledRows s = w.shadow := settledRows_of_open hw
    refine ⟨nofun, fun g rows ho hm hg => ?_, fun g c h => ⟨(hs.saving g c h).1, fun ho hm => ?_⟩, hs.certifying,
      hs.certified⟩
    · exact (hs.kept g rows ho hm hg).trans settled
    · exact ((hs.saving g c h).2 ho hm).trans settled
  case save n c hc hcert hedit => exact beginSave_certifiedSound hs hc hcert hedit
  case saved c hc => exact writeImage_certifiedSound hs hc
  case loadMap => exact ⟨hs.unwritten, hs.kept, hs.saving, hs.certifying, hs.certified⟩
  case loadGrades g rows hwork hw hrows =>
    refine .of_idle hwork (fun w h => ?_) (fun g' rows' ho _ hr => ?_) hs.certified
    · rw [show s.window = some w from h] at hw; cases hw
    · cases ho
      have same : rows' = rows := Option.some.inj (hr.symm.trans hrows)
      exact same.trans (settledRows_of_closed (s := { s with rows := rows, origin := some g, modified := false }) hw).symm
  case certify g hwork hg =>
    refine ⟨hs.unwritten, hs.kept, nofun, fun g' h => ?_, hs.certified⟩
    cases h
    exact hg
  case certified g hg =>
    refine .of_idle rfl hs.unwritten hs.kept fun g' hg' => ?_
    by_cases h : g = g'
    · exact h ▸ hs.certifying g hg
    · refine hs.certified g' ?_
      simpa only [certifyImage, Fin.getElem_fin, Vector.getElem_set, if_neg (mt Fin.ext h)] using hg'

/-- Settles O57: what keeps a certified table equal to its image is kept by every operation, and gives the equality where
the window is closed and the table unmodified. -/
theorem certifiedTableHoldsImage : Obligations.CertifiedTableHoldsImage := by
  refine ⟨step_keeps_tables (fun _ _ h => h.certifiedSound) fun _ _ h => h.certifiedSound, fun s hs hc => ?_⟩
  unfold tableCertified at hc
  split at hc
  · cases hc
  next g ho =>
    simp only [Bool.and_eq_true, Bool.not_eq_true', Option.isNone_iff_eq_none] at hc
    obtain ⟨⟨hcert, hm⟩, hw⟩ := hc
    obtain ⟨rows, hrows⟩ := Option.ne_none_iff_exists'.1 (hs.certified g hcert)
    refine ⟨g, ho, hcert, ?_⟩
    rw [hrows, hs.kept g rows ho hm hrows, settledRows_of_closed hw]

/-- The certified image `g` has the content `v`. -/
def HoldsCertified (g : GradeImage) (v : Option GradeTable) (s : State) : Prop :=
  CertifiedSound s ∧ s.store.certified[g] = true ∧ s.store.grades[g] = v

/-- Every operation on the tables keeps a certified image. -/
theorem TableOp.holdsCertified {g : GradeImage} {v : Option GradeTable} {s t : State} (h : TableOp s t)
    (hs : HoldsCertified g v s) : HoldsCertified g v t := by
  obtain ⟨sound, hcert, hv⟩ := hs
  refine ⟨h.certifiedSound sound, ?_⟩
  have other : ∀ g' : GradeImage, s.store.certified[g'] = false → ¬ g'.val = g.val := fun g' hg' h => by
    obtain rfl := Fin.ext h
    rw [hg'] at hcert
    cases hcert
  cases h
  case save n c hc huncert _ =>
    cases c
    case grades g' rows =>
      have hne := other g' (by simpa only [imageCertified, (contentFor_grades hc).1] using huncert)
      simp only [beginSave_fields, eraseImage, Fin.getElem_fin, Vector.getElem_set, if_neg hne]
      exact ⟨hcert, hv⟩
    all_goals exact ⟨hcert, hv⟩
  case saved c hc =>
    cases c
    case grades g' rows =>
      have hne := other g' (sound.saving g' rows hc).1
      simp only [writeImage, Fin.getElem_fin, Vector.getElem_set, if_neg hne]
      exact ⟨hcert, hv⟩
    all_goals exact ⟨hcert, hv⟩
  case certified g' _ =>
    refine ⟨?_, hv⟩
    simp only [certifyImage, Fin.getElem_fin, Vector.getElem_set]
    split
    · rfl
    · exact hcert
  all_goals exact ⟨hcert, hv⟩

/-- Settles O58: no operation erases, writes or uncertifies a certified image. -/
theorem certifiedImageKept : Obligations.CertifiedImageKept := by
  intro s t g hs h hcert
  exact (step_keeps_tables (P := HoldsCertified g s.store.grades[g])
    (fun u v h hu => ⟨h.certifiedSound hu.1, h.store ▸ hu.2⟩) (fun _ _ h => h.holdsCertified) s t ⟨hs, hcert, rfl⟩ h).2

end Sys2Proof.Machine
end

section
/-! SUPPORT. The figures of slots and install images stay in their ranges: what a delivery writes, which operations leave
every figure, and the proof of O59. -/

namespace Sys2Proof.Machine

/-! ## The figures a delivery writes (R49 to R65) -/

/-- A saturated value keeps its limit. -/
theorem saturate_value_le (limit v : Nat) : (saturate limit v).value ≤ limit := by
  unfold saturate
  split
  · exact le_rfl
  · exact Nat.le_of_not_lt ‹_›

theorem computeSdr_value_le (w : WindowResult) : (computeSdr w).value ≤ 65535 := by
  unfold computeSdr
  split
  · exact Nat.zero_le _
  · exact saturate_value_le _ _

/-- A step list with a new result holds at most four, each from the list or the new one (R61). -/
theorem appendStep_length_le (steps : List MarkedFigure) (r : MarkedFigure) : (appendStep steps r).length ≤ 4 := by
  simp only [appendStep, List.length_drop, List.length_append, List.length_singleton]
  omega

theorem mem_appendStep {steps : List MarkedFigure} {r x : MarkedFigure} (h : x ∈ appendStep steps r) :
    x ∈ steps ∨ x = r := by
  simpa using List.mem_of_mem_drop h

/-- RDC is no larger than a bound of its step results (R62). -/
theorem rdcOf_value_le {steps : List MarkedFigure} {m : Nat} (h : ∀ x ∈ steps, x.value ≤ m) {r : MarkedFigure}
    (hr : rdcOf steps = some r) : r.value ≤ m := by
  unfold rdcOf at hr
  split at hr
  · cases hr
  next hne =>
    cases hr
    have hlen : 0 < steps.length := List.length_pos_iff.2 (by simpa using hne)
    refine roundHalfUp_le_of_le_mul hlen ?_
    have hsum := List.sum_le_card_nsmul (steps.map (·.value)) m (by simpa using h)
    rw [List.length_map, smul_eq_mul] at hsum
    exact hsum.trans (Nat.mul_comm _ _).le

section
variable {f : Figures}

theorem writeRun_inRange (hf : f.inRange) (rated : Nat) (r : Option CapacityRun) : (writeRun rated r f).inRange := by
  cases r with
  | none => exact hf
  | some r =>
    refine { hf with cap := ?_, soh := ?_ }
    · rintro _ ⟨⟩; exact saturate_value_le 65535 _
    · rintro _ ⟨⟩; exact saturate_value_le 1500 _

theorem writeStep_inRange (hf : f.inRange) (points : List CurvePoint) (c : Option StepCapture) :
    (writeStep points c f).inRange := by
  cases c with
  | none => exact hf
  | some c =>
    have members : ∀ x ∈ appendStep f.steps (stepResult points c), x.value ≤ 65535 := fun x hx =>
      (mem_appendStep hx).elim (hf.steps.2 x) fun h => h ▸ saturate_value_le 65535 _
    exact { hf with
      rdc := fun r hr => rdcOf_value_le members hr
      steps := ⟨appendStep_length_le _ _, members⟩ }

theorem writeWindow_inRange (hf : f.inRange) (w : Option WindowResult) : (writeWindow w f).inRange := by
  cases w with
  | none => exact hf
  | some w =>
    refine { hf with sdr := ?_ }
    rintro _ ⟨⟩
    exact computeSdr_value_le w

theorem writeTmax_inRange (hf : f.inRange) {t : Option Int} (ht : ∀ v, t = some v → -400 ≤ v ∧ v ≤ 1250) :
    (writeTmax t f).inRange := by
  cases t with
  | none => exact hf
  | some t =>
    refine { hf with tmax := ?_ }
    rintro _ ⟨⟩
    exact ht t rfl

theorem writeFigures_inRange (hf : f.inRange) (points : List CurvePoint) (rated : Nat) {d : Delivery}
    (hd : ∀ v, d.tmax = some v → -400 ≤ v ∧ v ≤ 1250) : (writeFigures points rated d f).inRange :=
  writeTmax_inRange (writeWindow_inRange (writeStep_inRange (writeRun_inRange hf rated d.run) points d.step) d.window) hd

theorem clearFigures_inRange (hf : f.inRange) (cleared : List FigureKind) : (clearFigures cleared f).inRange where
  cap c h := by simp only [clearFigures] at h; split at h <;> [cases h; exact hf.cap c h]
  soh c h := by simp only [clearFigures] at h; split at h <;> [cases h; exact hf.soh c h]
  rdc c h := by simp only [clearFigures] at h; split at h <;> [cases h; exact hf.rdc c h]
  sdr c h := by simp only [clearFigures] at h; split at h <;> [cases h; exact hf.sdr c h]
  tmax t h := by simp only [clearFigures] at h; split at h <;> [cases h; exact hf.tmax t h]
  steps := by simp only [clearFigures]; split <;> [exact ⟨Nat.zero_le _, nofun⟩; exact hf.steps]

end

theorem figures_none_inRange : Figures.none.inRange := ⟨nofun, nofun, nofun, nofun, nofun, Nat.zero_le _, nofun⟩

/-- The temperature handed on is that of the sample (R45). -/
theorem trackSample_tmax {p : Profile} {cells : Nat} {tmax : Option Int} {t : Tracker} {x : ClampedSample} {v : Int}
    (h : (trackSample p cells tmax t x).2.tmax = some v) : v = x.temperature := by
  have rising : risingTemperature tmax x.temperature = some v := by
    unfold trackSample at h
    dsimp only at h
    split at h <;> exact h
  unfold risingTemperature at rising
  split at rising <;> [skip; split at rising] <;> cases rising <;> rfl

/-! ## Slots in range -/

/-- The record of a slot is in range. -/
def SlotInRange (v : Slot) : Prop := ∀ m, v = some m → m.figures.inRange ∧ m.completedRuns ≤ 255

/-- Every slot record is in range. -/
def SlotsInRange (s : State) : Prop := ∀ i : SlotNo, SlotInRange s.slots[i]

/-- Every record of `t` has the figures and the completed runs of the slot's record in `s`. -/
def FiguresKept (s t : State) : Prop :=
  ∀ (i : SlotNo) m, t.slots[i] = some m →
    ∃ m', s.slots[i] = some m' ∧ m.figures = m'.figures ∧ m.completedRuns = m'.completedRuns

theorem FiguresKept.slotsInRange {s t : State} (h : FiguresKept s t) (hs : SlotsInRange s) : SlotsInRange t := by
  intro i m hm
  obtain ⟨m', hm', figures, runs⟩ := h i m hm
  rw [figures, runs]
  exact hs i m' hm'

theorem FiguresKept.of_slots {s t : State} (h : t.slots = s.slots) : FiguresKept s t := fun _ m hm =>
  ⟨m, h ▸ hm, rfl, rfl⟩

theorem FiguresKept.trans {s t u : State} (h : FiguresKept s t) (k : FiguresKept t u) : FiguresKept s u := by
  intro i m hm
  obtain ⟨m', hm', figures, runs⟩ := k i m hm
  obtain ⟨m'', hm'', figures', runs'⟩ := h i m' hm'
  exact ⟨m'', hm'', figures.trans figures', runs.trans runs'⟩

theorem FiguresKept.foldl {α : Type} (f : State → α → State) (h : ∀ s a, FiguresKept s (f s a)) (l : List α)
    (s : State) : FiguresKept s (l.foldl f s) :=
  List.foldlRecOn l f (FiguresKept.of_slots rfl) fun u hu a _ => hu.trans (h u a)

/-- An evaluation leaves figures and completed runs. -/
theorem Regraded.figuresKept {s t : State} (h : Regraded s t) : FiguresKept s t := by
  intro i m hm
  rcases h.slots i with same | ⟨m', g, row, st, hm', same⟩
  · exact ⟨m, same ▸ hm, rfl, rfl⟩
  · obtain rfl : _ = m := Option.some.inj (same.symm.trans hm)
    exact ⟨m', hm', rfl, rfl⟩

theorem BankWork.figuresKept {s t : State} (h : BankWork s t) : FiguresKept s t := .of_slots (by simp only [h.fields])

theorem RunWork.figuresKept {s t : State} (h : RunWork s t) : FiguresKept s t := .of_slots (by simp only [h.fields])

theorem requestReport_figuresKept (r : Report) (s : State) : FiguresKept s (requestReport r s) :=
  (requestReport_regraded r s).figuresKept

/-- A change of a record that leaves figures and completed runs. -/
theorem updateSlot_figuresKept (i : SlotNo) {f : ModuleRecord → ModuleRecord}
    (hf : ∀ m, (f m).figures = m.figures ∧ (f m).completedRuns = m.completedRuns) (s : State) :
    FiguresKept s (updateSlot i f s) := by
  intro j m hm
  rw [updateSlot_slot] at hm
  split at hm
  · obtain ⟨m', hm', rfl⟩ := Option.map_eq_some_iff.1 hm
    exact ⟨m', hm', hf m'⟩
  · exact ⟨m, hm, rfl, rfl⟩

theorem updateSlots_figuresKept (is : List SlotNo) {f : ModuleRecord → ModuleRecord}
    (hf : ∀ m, (f m).figures = m.figures ∧ (f m).completedRuns = m.completedRuns) (s : State) :
    FiguresKept s (updateSlots is f s) :=
  FiguresKept.foldl _ (fun u i => updateSlot_figuresKept i hf u) is s

theorem mapSlots_figuresKept {f : SlotNo → ModuleRecord → ModuleRecord}
    (hf : ∀ i m, (f i m).figures = m.figures ∧ (f i m).completedRuns = m.completedRuns) (s : State) :
    FiguresKept s (mapSlots f s) := by
  intro i m hm
  rw [mapSlots_slot] at hm
  obtain ⟨m', hm', rfl⟩ := Option.map_eq_some_iff.1 hm
  exact ⟨m', hm', hf i m'⟩

theorem resetTracker_figures (m : ModuleRecord) :
    (resetTracker m).figures = m.figures ∧ (resetTracker m).completedRuns = m.completedRuns := by
  unfold resetTracker
  split <;> exact ⟨rfl, rfl⟩

theorem installRecord_figures (m : ModuleRecord) :
    (installRecord m).figures = m.figures ∧ (installRecord m).completedRuns = m.completedRuns := by
  unfold installRecord
  split <;> exact ⟨rfl, rfl⟩

theorem releaseRecord_figures (m : ModuleRecord) :
    (releaseRecord m).figures = m.figures ∧ (releaseRecord m).completedRuns = m.completedRuns := by
  unfold releaseRecord
  split <;> exact ⟨rfl, rfl⟩

/-- A record written in a slot is in range with the others. -/
theorem setSlot_slotsInRange {s : State} (hs : SlotsInRange s) (i : SlotNo) {v : Slot} (hv : SlotInRange v) :
    SlotsInRange (setSlot i v s) := by
  intro j
  rw [setSlot_slot]
  split
  · exact hv
  · exact hs j

/-! ## Work on a sample -/

theorem quarantinePlace_work (i : SlotNo) (s : State) : BankWork s (quarantinePlace i s) := by
  unfold quarantinePlace
  split <;> [skip; split]
  · exact .refl s
  · rfl
  · exact leavePlace_work i s

theorem handOn_figuresKept (i : SlotNo) (kinds : List FigureKind) (first : Bool) (s : State) :
    FiguresKept s (handOn i kinds first s) := by
  have written := (updateSlot_figuresKept i (f := fun m => { m with restored := false }) (fun _ => ⟨rfl, rfl⟩) s).trans
    (requestReport_figuresKept (.figure i (figureSet kinds)) _)
  have ite : ∀ (c : Prop) [Decidable c] (t u v : State), FiguresKept t u → FiguresKept t v →
      FiguresKept t (if c then u else v) := fun c _ t u v hu hv => by split <;> assumption
  have same : ∀ t : State, FiguresKept t t := fun _ => .of_slots rfl
  exact ((written.trans (ite _ _ _ _ (same _) (evaluateSlot_regraded i _).figuresKept)).trans
    (ite _ _ _ _ (reviewTest_work i _).figuresKept (same _))).trans
    (ite _ _ _ _ (disturbForFigures_work i _).figuresKept (same _))

/-- The work on a delivery whose temperature is in range keeps the slots in range. -/
theorem deliver_slotsInRange {s : State} (hs : SlotsInRange s) (i : SlotNo) {d : Delivery}
    (hd : ∀ v, d.tmax = some v → -400 ≤ v ∧ v ≤ 1250) (first : Bool) : SlotsInRange (deliver i d first s) := by
  unfold deliver
  split
  next => exact hs
  next => exact hs
  next m _ _ hm _ =>
    refine (handOn_figuresKept i _ first _).slotsInRange (setSlot_slotsInRange hs i ?_)
    rintro _ ⟨⟩
    exact ⟨writeFigures_inRange (hs i m hm).1 _ _ hd, (hs i m hm).2⟩

/-- The work on a sample whose temperature is in range keeps the slots in range. -/
theorem workSample_slotsInRange {s : State} (hs : SlotsInRange s) (i : SlotNo) {x : ClampedSample}
    (hx : -400 ≤ x.temperature ∧ x.temperature ≤ 1250) : SlotsInRange (workSample i x s) := by
  unfold workSample
  split
  · exact hs
  next m hm =>
    split <;> [skip; exact hs]
    dsimp only
    split
    next reason _ =>
      refine (((quarantinePlace_work i _).figuresKept.trans (requestReport_figuresKept _ _)).trans
        (disturbFor_work i _).figuresKept).slotsInRange (setSlot_slotsInRange hs i ?_)
      rintro _ ⟨⟩
      exact hs i m hm
    next =>
      refine deliver_slotsInRange (setSlot_slotsInRange hs i ?_) i (fun v hv => trackSample_tmax hv ▸ hx) _
      rintro _ ⟨⟩
      refine ⟨(hs i m hm).1, ?_⟩
      dsimp only [trackedRecord, runsAfter]
      split
      · exact Nat.min_le_right _ _
      · exact (hs i m hm).2

/-- A clamped value lies in its range. -/
theorem clampInt_mem {lo hi : Int} (h : lo ≤ hi) (v : Int) : lo ≤ clampInt lo hi v ∧ clampInt lo hi v ≤ hi := by
  unfold clampInt
  split <;> [skip; split] <;> omega

theorem workEntry_slotsInRange {s : State} (hs : SlotsInRange s) (node : Nat) (payload : List Byte) (k : Nat) :
    SlotsInRange (workEntry node payload k s) := by
  unfold workEntry
  split <;> [split; skip]
  · exact hs
  · exact workSample_slotsInRange hs _ (clampInt_mem (by decide) _)
  · exact hs

theorem observe_slotsInRange {s : State} (hs : SlotsInRange s) (node : Nat) (payload : List Byte) :
    SlotsInRange (observe node payload s) := by
  have noted : ∀ f, SlotsInRange (updateNode node f s) := fun f => by rw [updateNode_eq]; exact hs
  unfold observe
  split
  · exact noted _
  · exact List.foldlRecOn (motive := SlotsInRange) _ _ (noted _) fun u hu k _ => workEntry_slotsInRange hu node payload k

/-! ## Start-up, purging and the install image -/

/-- Restoring slots from install records in range gives slots in range. -/
theorem restoreRecords_slotsInRange {s : State} (hs : SlotsInRange s) {records : List InstallRecord}
    (h : ∀ r ∈ records, ∀ v ∈ r.slots, v.figures.inRange) : SlotsInRange (records.foldl restoreRecord s) := by
  refine List.foldlRecOn (motive := SlotsInRange) _ _ hs fun u hu r hr => ?_
  refine List.foldlRecOn (motive := SlotsInRange) _ _ hu fun w hw x hx => ?_
  have restored : SlotInRange (some (restoredRecord x.2)) := by
    rintro _ ⟨⟩
    exact ⟨h r hr x.2 (List.of_mem_zip hx).2, Nat.zero_le _⟩
  exact setSlot_slotsInRange hw x.2.slot restored

theorem slotsStage_slotsInRange {s : State} (h : ∀ c, s.store.install = some c → c.inRange) :
    SlotsInRange (slotsStage s) := by
  have vacant : SlotsInRange { s with slots := Vector.replicate 64 none, places := Vector.replicate 64 Place.empty } :=
    fun i m hm => by simp at hm
  change SlotsInRange (restoreInstall _)
  unfold restoreInstall
  split <;> [skip; split]
  · exact vacant
  next c hc _ => exact restoreRecords_slotsInRange vacant (h c hc)
  · exact vacant

/-- After PURGE a slot is as it was in a fixed place, and VACANT otherwise. -/
theorem purgeAll_slot (s : State) (i : SlotNo) :
    (purgeAll s).slots[i] = if inFixedPlace s i then s.slots[i] else none := by
  unfold purgeAll
  simp only
  rw [removeReports_fold]
  simp [recordsFromFixed]

/-- The records of an install image copied from slots in range are in range. -/
theorem contentFor_inRange {s : State} (hs : SlotsInRange s) {n : Nat} {c : InstallImage}
    (h : contentFor s n = some (.install c)) : c.inRange := by
  have copied : c.records = (fixedPositions s).map (installRecordOf s) := by
    unfold contentFor at h
    split at h
    case h_5 => cases h; rfl
    case h_6 => obtain ⟨_, _, h⟩ := Option.map_eq_some_iff.1 h; cases h
    all_goals cases h
  intro r hr v hv
  rw [copied] at hr
  obtain ⟨at_, -, rfl⟩ := List.mem_map.1 hr
  obtain ⟨i, -, hi⟩ := List.mem_filterMap.1 hv
  obtain ⟨m, hm, rfl⟩ := Option.map_eq_some_iff.1 hi
  exact (hs i m hm).1

/-! ## Every operation -/

theorem TablesKept.figuresInRange {s t : State} (h : TablesKept s t) (hs : FiguresInRange s) (ht : SlotsInRange t) :
    FiguresInRange t :=
  ⟨ht, h.store ▸ hs.stored, h.storeWork ▸ hs.saving⟩

theorem fixPosition_figuresKept (i : StringNo) (pos : Nat) (s : State) : FiguresKept s (fixPosition i pos s) :=
  ((updatePlaces_work _ _ s).figuresKept.trans (updateSlots_figuresKept _ installRecord_figures _)).trans
    (FiguresKept.of_slots rfl)

theorem unfixPosition_figuresKept (i : StringNo) (pos : Nat) (s : State) : FiguresKept s (unfixPosition i pos s) :=
  ((updatePlaces_work _ _ s).figuresKept.trans (updateSlots_figuresKept _ releaseRecord_figures _)).trans
    (FiguresKept.foldl _ (fun u k => (applyEligibility_work k u).figuresKept) _ _)

theorem abortRun_figuresKept (s : State) : FiguresKept s (abortRun s) := by
  unfold abortRun
  split
  · exact .of_slots rfl
  · exact (FiguresKept.of_slots (t := { s with run := none }) rfl).trans (requestReport_figuresKept _ _)

theorem discardRun_figuresKept (r : PlanningRun) (s : State) : FiguresKept s (discardRun r s) := by
  have ended : ∀ x, FiguresKept s { s with run := x } := fun _ => .of_slots rfl
  unfold discardRun
  split <;> exact (ended _).trans (requestReport_figuresKept _ _)

theorem adoptRun_figuresKept (r : PlanningRun) (s : State) : FiguresKept s (adoptRun r s) := by
  have ended : ∀ u : State, FiguresKept u { u with run := none } := fun _ => .of_slots rfl
  exact ((adoptPlaces_work r.tentative s).figuresKept.trans (ended _)).trans (requestReport_figuresKept _ _)

theorem fallSilent_figuresKept (node : Nat) (s : State) : FiguresKept s (fallSilent node s) := by
  let u := updateNode node (fun e => { e with silent := true }) s
  let v := (nodeSlots u node).foldl (fun s i => resetSegments i s) u
  have noted : FiguresKept s u := .of_slots (by simp only [u]; rw [updateNode_eq])
  have reset : FiguresKept u v :=
    FiguresKept.foldl _ (fun t i => updateSlot_figuresKept i resetTracker_figures t) (nodeSlots u node) u
  have told : FiguresKept v (fallSilent node s) := requestReport_figuresKept (.silent node (silentNodes v)) v
  exact (noted.trans reset).trans told

theorem resetNamed_figuresKept (v : Option SlotNo) (s : State) : FiguresKept s (resetNamed v s) := by
  cases v with
  | none => exact .of_slots rfl
  | some i => exact updateSlot_figuresKept i resetTracker_figures s

theorem loadImage_figuresKept (n : Nat) (s : State) : FiguresKept s (loadImage n s) := by
  have same : FiguresKept s s := .of_slots rfl
  unfold loadImage
  split <;> [split; split; split; split; split]
  · exact .of_slots rfl
  · exact same
  next c _ =>
    have loaded : FiguresKept s { s with profiles := c.profiles, curves := c.curves } := .of_slots rfl
    exact loaded.trans (mapSlots_figuresKept (fun _ => resetTracker_figures) _)
  · exact same
  next map _ =>
    have loaded : FiguresKept s { s with slotMap := map } := .of_slots rfl
    refine loaded.trans (FiguresKept.foldl _ (fun u k => ?_) _ _)
    split
    · exact .of_slots rfl
    · exact (resetNamed_figuresKept _ u).trans (resetNamed_figuresKept _ _)
  · exact same
  · exact .of_slots rfl
  · exact same
  · exact same
  next g _ =>
    split
    next rows _ =>
      have loaded : FiguresKept s { s with rows := rows, origin := some g, modified := false } := .of_slots rfl
      exact loaded.trans (evaluateAll_regraded _).figuresKept
    next => exact same

theorem clearSlotFigures_slotsInRange {s : State} (hs : SlotsInRange s) (i : SlotNo) (named : List FigureKind) :
    SlotsInRange (clearSlotFigures i named s) := by
  let u := updateSlot i (fun m => { m with figures := clearFigures (clearedFigures named) m.figures }) s
  have cleared : SlotsInRange u := by
    refine setSlot_slotsInRange hs i fun m hm => ?_
    obtain ⟨m', hm', rfl⟩ := Option.map_eq_some_iff.1 hm
    exact ⟨clearFigures_inRange (hs i m' hm').1 _, (hs i m' hm').2⟩
  have rest := (((updateSlot_figuresKept i resetTracker_figures u).trans
    (requestReport_figuresKept (.figure i (figureSet (clearedFigures named))) _)).trans
    (disturbFor_work i _).figuresKept).trans (evaluateSlot_regraded i _).figuresKept
  have reviewed := rest.slotsInRange cleared
  unfold clearSlotFigures
  dsimp only
  split
  · exact (reviewTest_work i _).figuresKept.slotsInRange reviewed
  · exact reviewed

theorem removeReports_figuresKept (i : SlotNo) (s : State) : FiguresKept s (removeReports i s) := .of_slots rfl

theorem withdrawSlot_slotsInRange {s : State} (hs : SlotsInRange s) (i : SlotNo) : SlotsInRange (withdrawSlot i s) := by
  have left := ((leavePlace_work i s).figuresKept.trans (disturbFor_work i _).figuresKept).trans
    (removeReports_figuresKept i _)
  have vacant : SlotInRange none := fun _ h => by cases h
  exact setSlot_slotsInRange (left.slotsInRange hs) i vacant

/-- Every operation keeps the slots in range. -/
theorem CoreOp.slotsInRange {s t : State} (h : CoreOp s t) (hs : FiguresInRange s) : SlotsInRange t := by
  have slots : SlotsInRange s := hs.slots
  have kept : FiguresKept s t → SlotsInRange t := fun h => h.slotsInRange slots
  cases h
  case startUp straps e =>
    have store : (loadingStage straps (clearingStage e s)).store = s.store := by
      simp only [loadingStage, formAddress, loadBootTable]
      split <;> rfl
    exact slotsStage_slotsInRange (store ▸ hs.stored)
  case observe => exact observe_slotsInRange slots _ _
  case fallSilent => exact kept (fallSilent_figuresKept _ s)
  case enterBypass =>
    have entered : ∀ u : State, FiguresKept u { u with engine := .bypass, takingSuspended := false } := fun _ =>
      .of_slots rfl
    exact kept (((abortRun_figuresKept s).trans (mapSlots_figuresKept (fun _ => resetTracker_figures) _)).trans (entered _))
  case purge =>
    refine kept fun i m hm => ?_
    rw [purgeAll_slot, Option.ite_none_right_eq_some] at hm
    exact ⟨m, hm.2, rfl, rfl⟩
  case mapEntry index v _ =>
    unfold assignEntry
    dsimp only
    split
    · exact slots
    · exact ((resetNamed_figuresKept _ _).trans (resetNamed_figuresKept v _)).slotsInRange slots
  case resetSegments which =>
    refine kept (mapSlots_figuresKept (fun i m => ?_) s)
    split
    · exact resetTracker_figures m
    · exact ⟨rfl, rfl⟩
  case editClose => exact (evaluateAll_regraded _).figuresKept.slotsInRange slots
  case editCancel => exact (evaluateAll_regraded _).figuresKept.slotsInRange slots
  case admitted =>
    refine setSlot_slotsInRange slots _ ?_
    rintro _ ⟨⟩
    exact ⟨figures_none_inRange, Nat.zero_le _⟩
  case withdraw i _ => exact withdrawSlot_slotsInRange slots i
  case clearFigures => exact clearSlotFigures_slotsInRange slots _ _
  case abort => exact kept (abortRun_figuresKept s)
  case discard => exact kept (discardRun_figuresKept _ s)
  case adopt => exact kept (adoptRun_figuresKept _ s)
  case fix i pos _ _ _ _ _ =>
    have struck : FiguresKept s (strikeSlots (positionSlots s i pos) (fixPosition i pos s)) :=
      (fixPosition_figuresKept i pos s).trans (.of_slots rfl)
    exact kept (struck.trans (disturbIfProcessed_work i _).figuresKept)
  case unfix i pos _ _ _ =>
    exact kept ((unfixPosition_figuresKept i pos s).trans (disturbIfProcessed_work i _).figuresKept)
  case fixAll =>
    refine List.foldlRecOn (motive := fun acc : State × Nat => SlotsInRange acc.1) _ _ slots fun acc hacc a _ => ?_
    unfold fixIfFilled
    split
    · exact (fixPosition_figuresKept _ _ _).slotsInRange hacc
    · exact hacc
  case unfixAll =>
    refine List.foldlRecOn (motive := fun acc : State × Nat => SlotsInRange acc.1) _ _ slots fun acc hacc a _ => ?_
    unfold unfixIfFixed
    split
    · exact (unfixPosition_figuresKept _ _ _).slotsInRange hacc
    · exact hacc
  case load => exact kept (loadImage_figuresKept _ s)
  all_goals exact slots

/-- Every operation on the tables keeps the install image and its copy in range. -/
theorem TableOp.installsInRange {s t : State} (h : TableOp s t) (hs : FiguresInRange s) :
    (∀ c, t.store.install = some c → c.inRange) ∧ (∀ c, t.storeWork = some (.save (.install c)) → c.inRange) := by
  obtain ⟨slots, stored, saving⟩ := hs
  cases h
  case restart => exact ⟨stored, nofun⟩
  case startUp => exact ⟨stored, nofun⟩
  case save n c hc _ _ =>
    refine ⟨fun c' hc' => ?_, fun c' hc' => ?_⟩
    · cases c
      case install => cases hc'
      all_goals exact stored c' hc'
    · cases hc'
      exact contentFor_inRange slots hc
  case saved c hc =>
    refine ⟨fun c' hc' => ?_, nofun⟩
    cases c
    case install => cases hc'; exact saving _ hc
    all_goals exact stored c' hc'
  case certify => exact ⟨stored, nofun⟩
  case certified => exact ⟨stored, nofun⟩
  all_goals exact ⟨stored, saving⟩

/-- Settles O59: a delivery writes figures in range, and every other operation moves, copies or clears figures whole. -/
theorem figuresStayInRange : Obligations.FiguresStayInRange := by
  refine step_keeps (fun s t h hs => ?quiet) fun s t h hs => ?op
  case quiet =>
    have slots : t.slots = s.slots := congrArg CoreFields.slots h.core
    exact h.tablesKept.figuresInRange hs ((FiguresKept.of_slots slots).slotsInRange hs.slots)
  case op =>
    obtain ⟨u, hop, hkept⟩ := h.tables
    obtain ⟨stored, saving⟩ := hop.installsInRange hs
    exact ⟨h.slotsInRange hs, hkept.store ▸ stored, hkept.storeWork ▸ saving⟩

end Sys2Proof.Machine
end

section
/-! SUPPORT. Places, slots, string records and the run agree: what each operation does to them, the soundness of the bank
map and of the images, and the proof of O60. -/

namespace Sys2Proof.Machine

/-! ## The bank map (R96) -/

/-- A bank map stays sound when the string written lies within the bank and apart from every other enabled one. -/
theorem BankSound.set {b : BankMap} (hb : BankSound b) {index : Nat} {v : BankString} (hspan : v.first + v.span ≤ 64)
    (hover : overlapsAnother b index v = false) : BankSound (b.setIfInBounds index v) := by
  have apart : ∀ k : StringNo, index ≠ k.val → v.enabled = true → b[k].enabled = true →
      v.first + v.span ≤ b[k].first ∨ b[k].first + b[k].span ≤ v.first := by
    intro k hk hv he
    simp only [overlapsAnother, hv, Bool.true_and, List.any_eq_false, Bool.and_eq_true, bne_iff_ne, not_and,
      Bool.not_eq_true, Bool.not_eq_false'] at hover
    exact (spansDisjoint_iff v b[k]).1 (hover k (List.mem_finRange k) ⟨hk.symm, he⟩)
  constructor
  · intro i
    simp only [Fin.getElem_fin, Vector.getElem_setIfInBounds]
    split
    · exact fun _ => hspan
    · exact hb.within i
  · intro i j hne
    simp only [Fin.getElem_fin, Vector.getElem_setIfInBounds]
    split <;> split
    next hi hj => exact absurd (Fin.ext (hi.symm.trans hj)) hne
    next hj => exact apart j hj
    next hi _ => exact fun he hv => (apart i hi hv he).symm
    next => exact hb.apart i j hne

theorem bankSound_default : BankSound (Vector.replicate 8 BankString.default) := by
  constructor <;> simp [BankString.default]

/-! ## The install image copied from the fixed positions (R166, R168) -/

/-- What the install record of a position says of a place: the slot that stands in it. -/
def installedAt (s : State) (p : PlaceNo) : Option InstalledSlot :=
  s.places[p].slot.bind fun i => s.slots[i].map (installedSlot i)

theorem installRecordOf_slots (s : State) (at_ : StringNo × Nat) :
    (installRecordOf s at_).slots = (s.bank[at_.1].placesOf at_.2).filterMap (installedAt s) := by
  simp only [installRecordOf, positionSlots, List.filterMap_filterMap]
  rfl

theorem installedAt_slot {s : State} {p : PlaceNo} {v : InstalledSlot} (h : installedAt s p = some v) :
    s.places[p].slot = some v.slot ∧ ∃ m, s.slots[v.slot] = some m ∧ v.state = m.state := by
  obtain ⟨i, hi, h⟩ := Option.bind_eq_some_iff.1 h
  obtain ⟨m, hm, rfl⟩ := Option.map_eq_some_iff.1 h
  exact ⟨hi, m, hm, rfl⟩

theorem mem_fixedPositions {s : State} {i : StringNo} {pos : Nat} (h : (i, pos) ∈ fixedPositions s) :
    s.bank[i].enabled = true ∧ pos < s.bank[i].count ∧ positionFixed s i pos = true := by
  obtain ⟨j, -, hj⟩ := List.mem_flatMap.1 h
  split at hj
  next he =>
    obtain ⟨x, hx, heq⟩ := List.mem_map.1 hj
    cases heq
    obtain ⟨hx, hf⟩ := List.mem_filter.1 hx
    exact ⟨he, List.mem_range.1 hx, hf⟩
  next => cases hj

theorem fixedPositions_nodup (s : State) : (fixedPositions s).Nodup := by
  refine List.nodup_flatMap.2 ⟨fun i _ => ?_, (List.nodup_finRange 8).imp fun {i j} hne x hi hj => ?_⟩
  · split
    · exact (List.nodup_range.filter _).map fun a b h => (Prod.mk.inj h).2
    · exact List.nodup_nil
  · have first : ∀ k, x ∈ (if s.bank[k].enabled then
        ((List.range s.bank[k].count).filter fun pos => positionFixed s k pos).map fun pos => (k, pos) else []) →
        x.1 = k := fun k hk => by
      split at hk
      · obtain ⟨_, -, rfl⟩ := List.mem_map.1 hk; rfl
      · cases hk
    exact hne ((first i hi).symm.trans (first j hj))

section
variable {s : State} (h : PlacesAll s) (hb : BankSound s.bank)
include h

/-- A fixed place is recorded, with a state that a fixed place may hold. -/
theorem installedAt_of_fixed {p : PlaceNo} (hf : s.places[p].fixed = true) :
    ∃ v, installedAt s p = some v ∧ v.state.standsFixed := by
  obtain ⟨i, m, hi, hm, hstate⟩ := h.fixed p hf
  exact ⟨installedSlot i m, by rw [installedAt, hi, Option.bind_some, hm, Option.map_some], hstate⟩

include hb

omit h in
/-- The places of the fixed positions are distinct. -/
theorem fixedPlaces_nodup : ((fixedPositions s).flatMap fun a => s.bank[a.1].placesOf a.2).Nodup := by
  have owned : ∀ a ∈ fixedPositions s, ∀ p ∈ s.bank[a.1].placesOf a.2, ownsPlace s.bank a.1 a.2 p := fun a ha p hp =>
    ⟨(mem_fixedPositions ha).1, (mem_fixedPositions ha).2.1, hp⟩
  refine List.nodup_flatMap.2 ⟨fun a ha => ?_, ?_⟩
  · obtain ⟨he, hc, -⟩ := mem_fixedPositions ha
    exact (placesOf_full _ (hb.within _ he) hc).2
  · refine (fixedPositions_nodup s).imp_of_mem fun {a b} ha hb' hne p hpa hpb => hne ?_
    obtain ⟨h1, h2⟩ := (owned a ha p hpa).unique hb (owned b hb' p hpb)
    exact Prod.ext h1 h2

/-- The install image copied from places and slots that agree is sound. -/
theorem installImage_sound :
    InstallSound { bank := s.bank, records := (fixedPositions s).map (installRecordOf s) } where
  positions := by
    refine List.pairwise_map.2 ((fixedPositions_nodup s).imp fun {a b} hne heq => hne ?_)
    exact Prod.ext heq.1 heq.2
  whole r hr := by
    obtain ⟨a, ha, rfl⟩ := List.mem_map.1 hr
    obtain ⟨he, hc, hf⟩ := mem_fixedPositions ha
    refine ⟨he, hc, ?_⟩
    rw [installRecordOf_slots]
    refine List.filterMap_length_eq_length.2 fun p hp => ?_
    obtain ⟨v, hv, -⟩ := installedAt_of_fixed h ((positionFixed_iff s a.1 a.2).1 hf p hp)
    exact Option.isSome_of_mem hv
  slots := by
    have places : (((fixedPositions s).map (installRecordOf s)).flatMap (·.slots)) =
        ((fixedPositions s).flatMap fun a => s.bank[a.1].placesOf a.2).filterMap (installedAt s) := by
      rw [List.flatMap_map, List.filterMap_flatMap]
      simp only [installRecordOf_slots]
    rw [places, List.map_filterMap]
    refine (fixedPlaces_nodup hb).filterMap fun p q i hp hq => ?_
    obtain ⟨v, hv, rfl⟩ := Option.map_eq_some_iff.1 hp
    obtain ⟨w, hw, hslot⟩ := Option.map_eq_some_iff.1 hq
    exact h.once p q v.slot (installedAt_slot hv).1 (hslot ▸ (installedAt_slot hw).1)
  states r hr v hv := by
    obtain ⟨a, ha, rfl⟩ := List.mem_map.1 hr
    rw [installRecordOf_slots] at hv
    obtain ⟨p, hp, hv⟩ := List.mem_filterMap.1 hv
    obtain ⟨w, hw, hstate⟩ := installedAt_of_fixed h ((positionFixed_iff s a.1 a.2).1 (mem_fixedPositions ha).2.2 p hp)
    obtain rfl := Option.some.inj (hv.symm.trans hw)
    exact hstate

end

/-! ## The images -/

/-- A saved bank map is the working one. -/
theorem contentFor_bank {s : State} {n : Nat} {b : BankMap} (h : contentFor s n = some (.bank b)) : b = s.bank := by
  unfold contentFor at h
  split at h <;> simp_all

/-- A saved install image records the fixed positions. -/
theorem contentFor_install {s : State} {n : Nat} {c : InstallImage} (h : contentFor s n = some (.install c)) :
    c = { bank := s.bank, records := (fixedPositions s).map (installRecordOf s) } := by
  unfold contentFor at h
  split at h <;> simp_all

theorem TablesKept.imagesSound {s t : State} (h : TablesKept s t) (hs : ImagesSound s) : ImagesSound t where
  bank := h.bank ▸ hs.bank
  storedBank := h.store ▸ hs.storedBank
  savingBank := h.storeWork ▸ hs.savingBank
  storedInstall := h.store ▸ hs.storedInstall
  savingInstall := h.storeWork ▸ hs.savingInstall

/-- Every operation on the tables keeps the bank map and the images sound. -/
theorem TableOp.imagesSound {s t : State} (h : TableOp s t) (hs : ImagesSound s) (places : PlacesAll s) :
    ImagesSound t := by
  obtain ⟨bank, storedBank, savingBank, storedInstall, savingInstall⟩ := hs
  cases h
  case restart => exact ⟨bank, storedBank, nofun, storedInstall, nofun⟩
  case startUp =>
    refine ⟨?_, storedBank, nofun, storedInstall, nofun⟩
    change BankSound (s.store.bank.getD _)
    cases hb : s.store.bank with
    | none => exact bankSound_default
    | some b => exact storedBank b hb
  case bankMap index b hspan hover =>
    exact ⟨bank.set ‹_› ‹_›, storedBank, savingBank, storedInstall, savingInstall⟩
  case loadBank b hb => exact ⟨storedBank b hb, storedBank, savingBank, storedInstall, savingInstall⟩
  case save n c hc _ _ =>
    refine ⟨bank, fun b hb => ?_, fun b hb => ?_, fun c' hc' => ?_, fun c' hc' => ?_⟩
    · cases c
      case bank => cases hb
      all_goals exact storedBank b hb
    · cases hb
      rw [contentFor_bank hc]
      exact bank
    · cases c
      case install => cases hc'
      all_goals exact storedInstall c' hc'
    · cases hc'
      rw [contentFor_install hc]
      exact installImage_sound places bank
  case saved c hc =>
    refine ⟨bank, fun b hb => ?_, nofun, fun c' hc' => ?_, nofun⟩
    · cases c
      case bank => cases hb; exact savingBank _ hc
      all_goals exact storedBank b hb
    · cases c
      case install => cases hc'; exact savingInstall _ hc
      all_goals exact storedInstall c' hc'
  case certify => exact ⟨bank, storedBank, nofun, storedInstall, nofun⟩
  case certified => exact ⟨bank, storedBank, nofun, storedInstall, nofun⟩
  all_goals exact ⟨bank, storedBank, savingBank, storedInstall, savingInstall⟩

/-! ## Places, slots, records and the run -/

/-- Ending the run leaves places, slots and records. -/
theorem endRun_consistent {s : State} (h : PlacesAll s) : Consistent { s with run := none } :=
  .noRun (h.congr rfl rfl (fun _ => rfl) fun _ => id) rfl

/-- A run put in force on the same places, slots and records. -/
theorem Consistent.withRun {s : State} (h : Consistent s) {r : PlanningRun}
    (hr : r.disturbed = false → RunBut (fun _ => False) s r) : Consistent { s with run := some r } := by
  refine ⟨h.1.congr rfl rfl (fun _ => rfl) fun _ => id, fun r' heq hd => ?_⟩
  cases heq
  exact (hr hd).congr rfl (fun _ => rfl) (fun _ => id) fun _ _ => rfl

theorem abortRun_consistent {s : State} (h : Consistent s) : Consistent (abortRun s) := by
  unfold abortRun
  split
  · exact h
  · exact requestReport_consistent _ (endRun_consistent h.1)

theorem discardRun_consistent {s : State} (h : Consistent s) (r : PlanningRun) : Consistent (discardRun r s) := by
  unfold discardRun
  split
  · exact requestReport_consistent _ (endRun_consistent h.1)
  · exact requestReport_consistent _ (h.withRun fun _ => newRun_but s _)

/-- The plan is reset where no place is fixed (R98). -/
theorem resetPlan_consistent {s : State} (h : PlacesAll s) (hf : anyFixed s = false) (hr : s.run = none) (b : BankMap) :
    Consistent (resetPlan { s with bank := b }) := by
  have free : ∀ p : PlaceNo, s.places[p].fixed = false := fun p => by
    by_contra hp
    rw [(anyFixed_iff s).2 ⟨p, by simpa using hp⟩] at hf
    cases hf
  refine .noRun (h.reset free rfl (fun p => ?_) fun i => ?_) hr
  · simp [resetPlan]
  · simp [resetPlan, StringRecord.initial]

theorem loadSlotMap_consistent {s : State} (h : Consistent s) (map : Vector (Option SlotNo) 128) :
    Consistent (loadSlotMap map s) := by
  have loaded : Consistent { s with slotMap := map } := h.same rfl rfl rfl rfl rfl
  refine foldl_consistent _ (fun u k hu => ?_) _ loaded
  split
  · exact hu
  · exact resetNamed_consistent (resetNamed_consistent hu _) _

theorem loadImage_consistent {s : State} (h : Consistent s) (hb : BankSound s.bank) {n : Nat}
    (hrun : 4 ≤ n → s.run = none) (hfixed : n = 4 → anyFixed s = false) : Consistent (loadImage n s) := by
  unfold loadImage
  split <;> [split; split; split; split; split]
  · exact h.same rfl rfl rfl rfl rfl
  · exact h
  · exact resetAllSegments_consistent (h.same rfl rfl rfl rfl rfl)
  · exact h
  · exact loadSlotMap_consistent h _
  · exact h
  · exact resetPlan_consistent h.1 (hfixed rfl) (hrun (by decide)) _
  · exact h
  · exact h
  · split
    · exact evaluateAll_consistent (h.same rfl rfl rfl rfl rfl) hb
    · exact h

/-- Stage 3 of start-up starts and ends no run. -/
theorem slotsStage_run (s : State) : (slotsStage s).run = s.run := by
  change (restoreInstall _).run = s.run
  unfold restoreInstall
  split <;> [rfl; split]
  · rw [restoreRecords_eq, restoreFold_work]
  · rfl

/-- Start-up leaves places, slots and records that agree, and no run. -/
theorem startUp_consistent {s : State} (hs : ImagesSound s) (straps : BitVec 5) (e : Nat) :
    Consistent (slotsStage (loadingStage straps (clearingStage e s))) := by
  let u := loadingStage straps (clearingStage e s)
  have loaded : u.bank = s.store.bank.getD (Vector.replicate 8 BankString.default) ∧ u.store = s.store ∧
      u.run = none := by
    simp only [u, loadingStage, formAddress, loadBootTable]
    split <;> exact ⟨rfl, rfl, rfl⟩
  have bank : BankSound u.bank := by
    rw [loaded.1]
    cases hb : s.store.bank with
    | none => exact bankSound_default
    | some b => exact hs.storedBank b hb
  exact .noRun (slotsStage_all bank (loaded.2.1 ▸ hs.storedInstall)) ((slotsStage_run u).trans loaded.2.2)

theorem purgeAll_run (s : State) : (purgeAll s).run = s.run := by
  unfold purgeAll
  simp only
  rw [removeReports_fold]
  rfl

/-- BYPASS ends the run and resets the segments. -/
theorem enterBypass_consistent {s : State} (h : Consistent s) : Consistent (enterBypass s) := by
  have entered : ∀ u : State, Consistent u → Consistent { u with engine := .bypass, takingSuspended := false } :=
    fun u hu => hu.same rfl rfl rfl rfl rfl
  exact entered _ (resetAllSegments_consistent (abortRun_consistent h))

theorem openString_disturbed (s : State) (r : PlanningRun) (i : StringNo) :
    (openString s r i).disturbed = r.disturbed := by
  unfold openString
  dsimp only
  split <;> rfl

theorem fillString_disturbed (b : BankMap) (r : PlanningRun) (c : CurrentString) :
    (fillString b r c).disturbed = r.disturbed := by
  unfold fillString
  split <;> [rfl; split] <;> [rfl; skip]
  unfold fillPosition
  dsimp only
  split <;> rfl

/-- Every operation keeps places, slots, records and the run consistent. -/
theorem CoreOp.consistent {s t : State} (h : CoreOp s t) (images : ImagesSound s) (hs : Consistent s) : Consistent t := by
  have bank : BankSound s.bank := images.bank
  cases h
  case idle => exact hs
  case restart => exact (endRun_consistent hs.1).same rfl rfl rfl rfl rfl
  case startUp => exact startUp_consistent images _ _
  case observe => exact observe_consistent hs bank _ _
  case fallSilent => exact fallSilent_consistent hs _
  case enterBypass => exact enterBypass_consistent hs
  case purge hr => exact .noRun (PlacesBut.purge hs.1) ((purgeAll_run s).trans hr)
  case mapEntry =>
    unfold assignEntry
    dsimp only
    split
    · exact hs
    · have entered : ∀ m, Consistent { s with slotMap := m } := fun _ => hs.same rfl rfl rfl rfl rfl
      exact resetNamed_consistent (resetNamed_consistent (entered _) _) _
  case resetSegments => exact resetSegmentsWhere_consistent hs _
  case bankMap => exact resetPlan_consistent hs.1 ‹_› ‹_› _
  case editClose => exact evaluateAll_consistent (hs.same rfl rfl rfl rfl rfl) bank
  case editCancel => exact evaluateAll_consistent (hs.same rfl rfl rfl rfl rfl) bank
  case admitted vacant => exact hs.setSlot (fun m hm => by rw [vacant] at hm; cases hm) (by rintro m g d ⟨⟩; nofun)
  case withdraw hf => exact withdrawSlot_consistent hs bank _ hf
  case clearFigures => exact clearSlotFigures_consistent hs bank _ _
  case planRun => exact hs.withRun fun _ => newRun_but s _
  case runMode r mode hr => exact hs.withRun fun hd => (hs.2 r hr hd).marks mode r.disturbed
  case abort => exact abortRun_consistent hs
  case opening =>
    exact hs.withRun fun hd =>
      openString_but (hs.2 _ ‹s.run = some _› ((openString_disturbed s _ _).symm.trans hd)) ‹_› ‹_›
  case filling =>
    exact hs.withRun fun hd =>
      fillString_but (hs.2 _ ‹s.run = some _› ((fillString_disturbed _ _ _).symm.trans hd)) bank ‹_›
  case discard => exact discardRun_consistent hs _
  case adopt =>
    exact requestReport_consistent _
      (endRun_consistent (PlacesBut.adopt hs.1 bank (hs.2 _ ‹s.run = some _› ‹_›) ‹_› ‹_›))
  case fix => exact fixWithRun_consistent hs bank ‹_› ‹_› ‹_› ‹_› ‹_›
  case unfix => exact unfixWithRun_consistent hs bank ‹_› ‹_› ‹_›
  case fixAll hr =>
    obtain ⟨places, -, run, -⟩ := fixAll_all s.bank _ (fun _ => id) bank (s, 0) hs.1 rfl
    exact .noRun places (run.trans hr)
  case unfixAll hr =>
    obtain ⟨places, -, run, -⟩ := unfixAll_all s.bank _ (fun _ => id) bank (s, 0) hs.1 rfl
    exact .noRun places (run.trans hr)
  case load => exact loadImage_consistent hs bank ‹_› ‹_›
  all_goals exact hs.same rfl rfl rfl rfl rfl

/-- Settles O60: each operation keeps places, slots, records and the run consistent, and the tables keep the bank map and
the images sound. -/
theorem placesStayConsistent : Obligations.PlacesStayConsistent := by
  refine step_keeps (fun s t h hs => ?quiet) fun s t h hs => ?op
  case quiet =>
    obtain ⟨images, consistent⟩ := (placesSound_iff s).1 hs
    obtain ⟨-, -, -, -, -, slots, bank, places, records, run, -, -⟩ := h.fields
    exact (placesSound_iff t).2 ⟨h.tablesKept.imagesSound images, consistent.same bank places slots records run⟩
  case op =>
    obtain ⟨images, consistent⟩ := (placesSound_iff s).1 hs
    obtain ⟨u, hop, kept⟩ := h.tables
    exact (placesSound_iff t).2 ⟨kept.imagesSound (hop.imagesSound images consistent.1), h.consistent images consistent⟩

end Sys2Proof.Machine
end

section
/-! SUPPORT. No operation takes a queue, a count or the engine address out of its bounds: the proof of O54. -/

namespace Sys2Proof.Machine

/-! ## Work that keeps the bounds -/

/-- `t` keeps the bounds where `s` does. -/
def BoundsKept (s t : State) : Prop := QueuesBounded s → QueuesBounded t

theorem BoundsKept.trans {s t u : State} (h : BoundsKept s t) (k : BoundsKept t u) : BoundsKept s u := fun hs => k (h hs)

theorem BoundsKept.same {s t : State} (h : t.queues = s.queues) : BoundsKept s t := .congr h

theorem BoundsKept.foldl {α : Type} (f : State → α → State) (h : ∀ s a, BoundsKept s (f s a)) (l : List α) (s : State) :
    BoundsKept s (l.foldl f s) :=
  List.foldlRecOn l f (BoundsKept.same rfl) fun u hu a _ => hu.trans (h u a)

theorem Regraded.boundsKept {s t : State} (h : Regraded s t) : BoundsKept s t := h.work.bounds h.reported

theorem Worked.boundsKept {i : SlotNo} {s t : State} (h : Worked i s t) : BoundsKept s t := h.work.bounds h.reported

theorem BankWork.boundsKept {s t : State} (h : BankWork s t) : BoundsKept s t :=
  h.slotWork.bounds (.same (by simp only [h.fields]) (by simp only [h.fields]) (by simp only [h.fields]))

theorem requestReport_boundsKept (r : Report) (s : State) : BoundsKept s (requestReport r s) := (requestReport_quiet r s).bounds

theorem mapSlots_boundsKept (f : SlotNo → ModuleRecord → ModuleRecord) (s : State) : BoundsKept s (mapSlots f s) :=
  .same (by simp only [State.queues, mapSlots_fields])

theorem resetSegments_boundsKept (i : SlotNo) (s : State) : BoundsKept s (resetSegments i s) :=
  (updateSlot_worked i resetTracker s).boundsKept

theorem resetNamed_boundsKept (v : Option SlotNo) (s : State) : BoundsKept s (resetNamed v s) := by
  cases v with
  | none => exact .same rfl
  | some i => exact resetSegments_boundsKept i s

theorem removeReports_boundsKept (i : SlotNo) (s : State) : BoundsKept s (removeReports i s) := fun hs =>
  { hs with
    reports := (List.length_filter_le _ _).trans hs.reports
    keys := hs.keys.filter _ }

/-! ## The node register -/

/-- The counts of a node entry lie within bounds (R18). -/
def NodeEntry.bounded (e : NodeEntry) : Prop := e.sampleFrames ≤ 65535 ∧ e.malformed ≤ 65535

/-- A changed node entry keeps its counts within bounds. -/
theorem updateNode_boundsKept (node : Nat) (f : NodeEntry → NodeEntry) (hf : ∀ e, e.bounded → (f e).bounded)
    (s : State) : BoundsKept s (updateNode node f s) := by
  unfold updateNode
  split
  · exact .same rfl
  next e he =>
    have hk : ∃ k : Fin 16, s.nodes[k] = e := by
      obtain ⟨h, he⟩ := Vector.getElem?_eq_some_iff.1 he
      exact ⟨⟨_, h⟩, he⟩
    refine fun hs => { hs with nodes := fun k => ?_ }
    simp only [Fin.getElem_fin, Vector.getElem_setIfInBounds]
    split
    · obtain ⟨j, rfl⟩ := hk
      exact hf _ (hs.nodes j)
    · exact hs.nodes k

theorem observe_boundsKept (node : Nat) (payload : List Byte) (s : State) : BoundsKept s (observe node payload s) := by
  unfold observe
  split
  · have counted := updateNode_boundsKept node (fun e => { e with malformed := countUp e.malformed })
      (fun _ he => ⟨he.1, countUp_le _⟩) s
    exact counted.trans (countMalformed_quiet _).bounds
  · have noted := updateNode_boundsKept node (noteArrival (unsignedAt payload 0 2) s.engineTime)
      (fun e he => ⟨countUp_le _, he.2⟩) s
    refine noted.trans (BoundsKept.foldl (fun u k => workEntry node payload k u) (fun u k => ?_) _ _)
    rcases workEntry_worked node payload k u with h | ⟨i, h⟩
    · rw [h]; exact .same rfl
    · exact h.boundsKept

theorem fallSilent_boundsKept (node : Nat) (s : State) : BoundsKept s (fallSilent node s) := by
  let u := updateNode node (fun e => { e with silent := true }) s
  let v := (nodeSlots u node).foldl (fun s i => resetSegments i s) u
  have noted : BoundsKept s u := updateNode_boundsKept node (fun e => { e with silent := true }) (fun _ he => he) s
  have reset : BoundsKept u v := BoundsKept.foldl _ (fun t i => resetSegments_boundsKept i t) (nodeSlots u node) u
  have told : BoundsKept v (fallSilent node s) := requestReport_boundsKept (.silent node (silentNodes v)) v
  exact (noted.trans reset).trans told

/-! ## The engine, the run and the store -/

/-- The ports after a restart hold nothing. -/
theorem restartPorts_boundsKept (spare : Bool) (s : State) : BoundsKept s (restartPorts spare s) := fun hs =>
  { hs with up := Nat.zero_le 8, down := Nat.zero_le 4, pattern := Nat.zero_le 3, arbiter := Nat.zero_le 2 }

/-- The engine address formed from settings and straps lies in its range (R146). -/
theorem formAddress_boundsKept (straps : BitVec 5) (s : State) : BoundsKept s (formAddress straps s) := by
  refine fun hs => { hs with address := ?_ }
  simp only [formAddress]
  split
  · decide
  next h =>
    simp only [addressOutside, Bool.or_eq_true, decide_eq_true_eq] at h
    omega

/-- Stage 1 of start-up empties the queues and clears the counts. -/
theorem clearingStage_boundsKept (e : Nat) (s : State) : BoundsKept s (clearingStage e s) := fun hs =>
  { restartPorts_boundsKept (sparesLevel s.restartCause) s hs with
    directives := Nat.zero_le 4
    reports := Nat.zero_le 16
    keys := .nil
    counters := ⟨Nat.zero_le _, Nat.zero_le _, Nat.zero_le _, Nat.zero_le _, Nat.zero_le _, Nat.zero_le _⟩
    nodes := fun k => by simp [clearingStage, NodeEntry.initial] }

theorem loadingStage_boundsKept (straps : BitVec 5) (s : State) : BoundsKept s (loadingStage straps s) := by
  have images : BoundsKept s (loadImages s) := .same rfl
  have table : ∀ u : State, BoundsKept u (loadBootTable u) := fun u => by
    unfold loadBootTable
    split <;> exact .same rfl
  have marks : ∀ u : State, BoundsKept u { u with reportMask := u.settings.defaultMask, foundValid := validMarks u.store } :=
    fun _ => .same rfl
  exact ((images.trans (table _)).trans (marks _)).trans (formAddress_boundsKept straps _)

theorem slotsStage_boundsKept (s : State) : BoundsKept s (slotsStage s) := by
  refine .same ?_
  change (restoreInstall _).queues = s.queues
  unfold restoreInstall
  split <;> [rfl; split]
  · rw [restoreRecords_eq, restoreFold_work]; rfl
  · rfl

theorem abortRun_boundsKept (s : State) : BoundsKept s (abortRun s) := by
  have ended : BoundsKept s { s with run := none } := .same rfl
  unfold abortRun
  split
  · exact .same rfl
  · exact ended.trans (requestReport_boundsKept _ _)

theorem discardRun_boundsKept (r : PlanningRun) (s : State) : BoundsKept s (discardRun r s) := by
  have ended : ∀ x, BoundsKept s { s with run := x } := fun _ => .same rfl
  unfold discardRun
  split <;> exact (ended _).trans (requestReport_boundsKept _ _)

theorem adoptRun_boundsKept (r : PlanningRun) (s : State) : BoundsKept s (adoptRun r s) := by
  have ended : ∀ u : State, BoundsKept u { u with run := none } := fun _ => .same rfl
  exact ((adoptPlaces_work r.tentative s).boundsKept.trans (ended _)).trans (requestReport_boundsKept _ _)

theorem enterBypass_boundsKept (s : State) : BoundsKept s (enterBypass s) := by
  have entered : ∀ u : State, BoundsKept u { u with engine := .bypass, takingSuspended := false } := fun _ => .same rfl
  exact ((abortRun_boundsKept s).trans (mapSlots_boundsKept _ _)).trans (entered _)

theorem purgeAll_boundsKept (s : State) : BoundsKept s (purgeAll s) := by
  have vacated : ∀ slots places, BoundsKept s { s with slots := slots, places := places } := fun _ _ => .same rfl
  have recorded : ∀ u, BoundsKept u (recordsFromFixed u) := fun _ => .same rfl
  exact ((vacated _ _).trans (BoundsKept.foldl _ (fun u i => removeReports_boundsKept i u) (purgedSlots s) _)).trans
    (recorded _)

theorem setSlot_boundsKept (i : SlotNo) (v : Slot) (s : State) : BoundsKept s (setSlot i v s) := .same rfl

theorem withdrawSlot_boundsKept (i : SlotNo) (s : State) : BoundsKept s (withdrawSlot i s) :=
  (((leavePlace_worked i s).boundsKept.trans (disturbFor_worked i _).boundsKept).trans
    (removeReports_boundsKept i _)).trans (setSlot_boundsKept i none _)

theorem updateSlots_boundsKept (is : List SlotNo) (f : ModuleRecord → ModuleRecord) (s : State) :
    BoundsKept s (updateSlots is f s) :=
  BoundsKept.foldl _ (fun u i => (updateSlot_worked i f u).boundsKept) is s

theorem fixPosition_boundsKept (i : StringNo) (pos : Nat) (s : State) : BoundsKept s (fixPosition i pos s) :=
  ((updatePlaces_work _ _ s).boundsKept.trans (updateSlots_boundsKept _ _ _)).trans (BankWork.boundsKept rfl)

theorem unfixPosition_boundsKept (i : StringNo) (pos : Nat) (s : State) : BoundsKept s (unfixPosition i pos s) :=
  ((updatePlaces_work _ _ s).boundsKept.trans (updateSlots_boundsKept _ _ _)).trans
    (BoundsKept.foldl _ (fun u k => (applyEligibility_work k u).boundsKept) _ _)

theorem disturbIfProcessed_boundsKept (i : StringNo) (s : State) : BoundsKept s (disturbIfProcessed i s) :=
  .same (by simp only [State.queues, (disturbIfProcessed_work i s).fields])

theorem fixWithRun_boundsKept (i : StringNo) (pos : Nat) (s : State) : BoundsKept s (fixWithRun i pos s) := by
  have struck : ∀ u : State, BoundsKept u (strikeSlots (positionSlots s i pos) u) := fun _ => .same rfl
  exact ((fixPosition_boundsKept i pos s).trans (struck _)).trans (disturbIfProcessed_boundsKept i _)

theorem fixAll_boundsKept (l : List (StringNo × Nat)) (s : State) : BoundsKept s (l.foldl fixIfFilled (s, 0)).1 := by
  refine List.foldlRecOn (motive := fun acc : State × Nat => BoundsKept s acc.1) l _ (.same rfl) fun acc h a _ => ?_
  unfold fixIfFilled
  split
  · exact h.trans (fixPosition_boundsKept _ _ _)
  · exact h

theorem unfixAll_boundsKept (l : List (StringNo × Nat)) (s : State) : BoundsKept s (l.foldl unfixIfFixed (s, 0)).1 := by
  refine List.foldlRecOn (motive := fun acc : State × Nat => BoundsKept s acc.1) l _ (.same rfl) fun acc h a _ => ?_
  unfold unfixIfFixed
  split
  · exact h.trans (unfixPosition_boundsKept _ _ _)
  · exact h

theorem loadImage_boundsKept (n : Nat) (s : State) : BoundsKept s (loadImage n s) := by
  have same : BoundsKept s s := .same rfl
  unfold loadImage
  split <;> [split; split; split; split; split]
  · exact .same rfl
  · exact same
  next c _ =>
    have loaded : BoundsKept s { s with profiles := c.profiles, curves := c.curves } := .same rfl
    exact loaded.trans (mapSlots_boundsKept _ _)
  · exact same
  next map _ =>
    have loaded : BoundsKept s { s with slotMap := map } := .same rfl
    refine loaded.trans (BoundsKept.foldl _ (fun u k => ?_) _ _)
    split
    · exact .same rfl
    · exact (resetNamed_boundsKept _ u).trans (resetNamed_boundsKept _ _)
  · exact same
  · exact .same rfl
  · exact same
  · exact same
  next g _ =>
    split
    next rows _ =>
      have loaded : BoundsKept s { s with rows := rows, origin := some g, modified := false } := .same rfl
      exact loaded.trans (evaluateAll_regraded _).boundsKept
    next => exact same

/-- Every operation keeps the bounds. -/
theorem CoreOp.boundsKept {s t : State} (h : CoreOp s t) : BoundsKept s t := by
  have evaluated : ∀ {u : State}, u.queues = s.queues → BoundsKept s (evaluateAll u) := fun h =>
    (BoundsKept.same h).trans (evaluateAll_regraded _).boundsKept
  cases h
  case restart spare => exact (restartPorts_boundsKept spare s).trans (.same rfl)
  case startUp =>
    exact ((clearingStage_boundsKept _ s).trans (loadingStage_boundsKept _ _)).trans (slotsStage_boundsKept _)
  case observe => exact observe_boundsKept _ _ s
  case fallSilent => exact fallSilent_boundsKept _ s
  case enterBypass => exact enterBypass_boundsKept s
  case purge => exact purgeAll_boundsKept s
  case mapEntry =>
    unfold assignEntry
    dsimp only
    split
    · exact .same rfl
    · have entered : ∀ m, BoundsKept s { s with slotMap := m } := fun _ => .same rfl
      exact ((entered _).trans (resetNamed_boundsKept _ _)).trans (resetNamed_boundsKept _ _)
  case resetSegments => exact mapSlots_boundsKept _ s
  case editClose => exact evaluated rfl
  case editCancel => exact evaluated rfl
  case withdraw => exact withdrawSlot_boundsKept _ s
  case clearFigures i named => exact (clearSlotFigures_worked i named s).boundsKept
  case abort => exact abortRun_boundsKept s
  case discard => exact discardRun_boundsKept _ s
  case adopt => exact adoptRun_boundsKept _ s
  case fix => exact fixWithRun_boundsKept _ _ s
  case unfix => exact (unfixPosition_boundsKept _ _ s).trans (disturbIfProcessed_boundsKept _ _)
  case fixAll => exact fixAll_boundsKept _ s
  case unfixAll => exact unfixAll_boundsKept _ s
  case load => exact loadImage_boundsKept _ s
  all_goals exact .same rfl

/-- Settles O54: the quiet changes of the ports, the frames and the reports keep the bounds, and so does every operation. -/
theorem queuesStayBounded : Obligations.QueuesStayBounded :=
  step_keeps (fun _ _ h => h.bounds) fun _ _ h => h.boundsKept

end Sys2Proof.Machine
end

section
/-! SUPPORT. What idle ports start, what a restart trigger leaves, and how breaks and short levels are judged and repeated;
the proofs of O1 and O4 to O8. -/

namespace Sys2Proof.Machine

/-- Settles O1: it is how a step is defined. -/
theorem stepRunsFrontCommand : Obligations.StepRunsFrontCommand := fun _ _ _ => rfl

/-! ## The down-port (R143, R148) -/

section
variable {s : State}

theorem startDownPort_of_busy {x : DownTransmission} (h : s.dnTx = some x) : startDownPort s = s := by
  simp only [startDownPort, h]

theorem startDownPort_of_level {l : LineLevel} {rest : List LineLevel} (h : s.dnTx = none) (hl : s.repeats = l :: rest) :
    startDownPort s = { s with repeats := rest, dnTx := some (.level l) } := by
  simp only [startDownPort, h, hl]

theorem startDownPort_of_frame {f : Frame} {rest : List Frame} (h : s.dnTx = none) (hl : s.repeats = [])
    (hf : s.dnQueue = f :: rest) : startDownPort s = { s with dnQueue := rest, dnTx := some (.forwarded f) } := by
  simp only [startDownPort, h, hl, hf]

theorem startDownPort_of_idle (hl : s.repeats = []) (hf : s.dnQueue = []) : startDownPort s = s := by
  cases h : s.dnTx <;> simp only [startDownPort, h, hl, hf]

/-- Starting the down-port touches its own fields alone. -/
theorem startDownPort_eq (s : State) :
    startDownPort s = { s with
      dnTx := (startDownPort s).dnTx, repeats := (startDownPort s).repeats, dnQueue := (startDownPort s).dnQueue } := by
  unfold startDownPort
  split <;> rfl

/-- The levels under way and waiting stay, whatever the down-port starts. -/
theorem lineLevels_startDownPort (s : State) : lineLevels (startDownPort s) = lineLevels s := by
  unfold startDownPort
  split
  case h_1 => rfl
  case h_2 hd hl => simp [lineLevels, hd, hl]
  case h_3 hd hl hf => simp [lineLevels, hd, hl]
  case h_4 => rfl

/-! ## The up-port (R144) -/

theorem startUpPort_of_busy {x : UpTransmission} (h : s.upTx = some x) : startUpPort s = s := by
  simp only [startUpPort, h]

theorem startUpPort_of_answer {a : Answer} (h : s.upTx = none) (he : s.engine ≠ .starting) (ha : s.answer = some a) :
    startUpPort s = sendAnswer a s := by
  simp only [startUpPort, h, arbitrate, answerToSend, if_neg he, ha]

/-- No answer begins: there is none, or the engine is STARTING (R149). -/
theorem answerToSend_eq_none (h : s.answer = none ∨ s.engine = .starting) : answerToSend s = none := by
  unfold answerToSend
  split
  · rfl
  next he => exact h.resolve_right he

/-- No report begins: none waits, or the engine is not ACTIVE. -/
theorem reportToSend_eq_none (h : s.engine ≠ .active ∨ s.reports = []) : reportToSend s = none := by
  unfold reportToSend
  split
  next he => rw [h.resolve_left (not_not_intro he)]; rfl
  · rfl

theorem startUpPort_of_report {r : Report} {rest : List Report} (h : s.upTx = none)
    (ha : s.answer = none) (he : s.engine = .active) (hr : s.reports = r :: rest)
    (hq : s.upQueue = [] ∨ s.arbiterCount = 2) : startUpPort s = { sendReport r s with reports := rest } := by
  have report : reportToSend s = some r := by simp only [reportToSend, if_pos he, hr, List.head?_cons]
  have sent : sendReport r s = { sendReport r s with reports := rest } := by
    simp only [sendReport, hr, List.tail_cons]
  simp only [startUpPort, h, arbitrate, answerToSend_eq_none (.inl ha), report]
  cases hcons : s.upQueue with
  | nil => exact sent
  | cons f fs => exact (if_pos (hq.resolve_left (by simp [hcons]))).trans sent

theorem startUpPort_of_forwarded {f : Frame} {rest : List Frame} (h : s.upTx = none)
    (ha : s.answer = none ∨ s.engine = .starting) (hq : s.upQueue = f :: rest)
    (hr : s.engine ≠ .active ∨ s.reports = [] ∨ s.arbiterCount ≠ 2) : startUpPort s = sendForwarded f rest s := by
  simp only [startUpPort, h, arbitrate, answerToSend_eq_none ha, hq]
  cases hreport : reportToSend s with
  | none => rfl
  | some r =>
    have waiting : ¬ (s.engine ≠ .active ∨ s.reports = []) := fun h => by
      rw [reportToSend_eq_none h] at hreport; cases hreport
    have early : s.arbiterCount ≠ 2 := by tauto
    simp only [if_neg early]

theorem startUpPort_of_idle (ha : s.answer = none ∨ s.engine = .starting) (hq : s.upQueue = [])
    (hr : s.engine ≠ .active ∨ s.reports = []) : startUpPort s = s := by
  unfold startUpPort
  split
  · rfl
  · simp only [arbitrate, answerToSend_eq_none ha, reportToSend_eq_none hr, hq]

theorem lineLevels_startUpPort (s : State) : lineLevels (startUpPort s) = lineLevels s := by
  unfold startUpPort arbitrate
  split <;> [skip; split] <;> [skip; skip; skip; split; skip; skip] <;> rfl

end

/-! ## Both ports -/

theorem startPorts_of_high {s : State} (h : s.resetN = true) : startPorts s = startUpPort (startDownPort s) := if_pos h

/-- The levels go down the chain in order, whatever the ports start (R148). -/
theorem lineLevels_startPorts (s : State) : lineLevels (startPorts s) = lineLevels s := by
  unfold startPorts
  split
  · exact (lineLevels_startUpPort _).trans (lineLevels_startDownPort s)
  · rfl

/-- Settles O4: the arbiter looks at the up-port after the down-port has started, which leaves the up-port's fields. -/
theorem idlePortsServe : Obligations.IdlePortsServe := by
  refine ⟨fun s hs => ?_, rfl, fun s => ⟨fun x hx => ⟨startDownPort_of_busy hx, ?_⟩, fun hx => ⟨?_, ?_, ?_⟩⟩⟩
  · rw [startPorts_of_high hs, startDownPort_eq s]
    refine ⟨fun x hx => startUpPort_of_busy hx, fun hx => ⟨?_, ?_, ?_, ?_⟩⟩
    · exact fun a he ha => startUpPort_of_answer hx he ha
    · exact fun r rest ha he hr hq => startUpPort_of_report hx ha he hr hq
    · exact fun f rest ha hq hr => startUpPort_of_forwarded hx ha hq hr
    · exact fun ha hq hr => startUpPort_of_idle ha hq hr
  · change execDownPortTransmissionEnd s = _
    simp only [execDownPortTransmissionEnd, hx]
  · exact fun l rest hl => startDownPort_of_level hx hl
  · exact fun f rest hl hf => startDownPort_of_frame hx hl hf
  · exact fun hl hf => startDownPort_of_idle hl hf

/-! ## Restarts (R149, R173) -/

/-- With no frame queued the down-port starts levels alone. -/
theorem startDownPort_of_levels {s : State} (hdn : s.dnQueue = []) :
    ∃ dnTx repeats, startDownPort s = { s with dnTx := dnTx, repeats := repeats } ∧
      ((∀ f, s.dnTx ≠ some (.forwarded f)) → ∀ f, dnTx ≠ some (.forwarded f)) := by
  unfold startDownPort
  split
  case h_2 l rest _ _ => exact ⟨some (.level l), rest, rfl, fun _ _ => by simp⟩
  case h_3 h => rw [hdn] at h; cases h
  all_goals exact ⟨s.dnTx, s.repeats, rfl, id⟩

/-- With nothing queued and the engine STARTING, the ports start levels alone. -/
theorem startPorts_of_starting {s : State} (he : s.engine = .starting) (hup : s.upQueue = []) (hdn : s.dnQueue = []) :
    ∃ dnTx repeats, startPorts s = { s with dnTx := dnTx, repeats := repeats } ∧
      ((∀ f, s.dnTx ≠ some (.forwarded f)) → ∀ f, dnTx ≠ some (.forwarded f)) := by
  unfold startPorts
  split
  · obtain ⟨dnTx, repeats, h, hf⟩ := startDownPort_of_levels hdn
    refine ⟨dnTx, repeats, ?_, hf⟩
    rw [h]
    exact startUpPort_of_idle (.inr he) hup (.inl (by simp [he]))
  · exact ⟨s.dnTx, s.repeats, rfl, id⟩

theorem keepLevel_false (x : Option DownTransmission) : keepLevel false x = none := by
  unfold keepLevel
  split <;> rfl

theorem keepLevel_not_forwarded (spare : Bool) (x : Option DownTransmission) (f : Frame) :
    keepLevel spare x ≠ some (.forwarded f) := by
  unfold keepLevel
  split <;> [split; skip] <;> nofun

/-- What a trigger lets go on being repeated: the level under way when it is spared, and the waiting ones. -/
theorem lineLevels_triggerRestart (cause : RestartCause) (s : State) :
    lineLevels (triggerRestart cause s) = if sparesLevel cause then lineLevels s else s.repeats := by
  simp only [lineLevels, triggerRestart, enterStarting, restartPorts, keepLevel]
  cases s.dnTx with
  | none => simp
  | some x => cases x <;> cases sparesLevel cause <;> simp

/-- A trigger and what the ports then start make a restart. -/
theorem restarted_of_trigger (cause : RestartCause) (s : State) :
    Restarted cause (if sparesLevel cause then lineLevels s else s.repeats) s (startPorts (triggerRestart cause s)) := by
  have levels := (lineLevels_startPorts (triggerRestart cause s)).trans (lineLevels_triggerRestart cause s)
  obtain ⟨dnTx, repeats, h, hf⟩ := startPorts_of_starting (s := triggerRestart cause s) rfl rfl rfl
  rw [h] at levels ⊢
  exact ⟨rfl, levels, hf (keepLevel_not_forwarded _ _)⟩

/-- Settles O6: every trigger makes a restart, and the held reset line keeps one. -/
theorem restartTriggersStart : Obligations.RestartTriggersStart := by
  intro s
  refine ⟨⟨_, rfl, restarted_of_trigger .powerOn s⟩,
    ⟨_, rfl, restarted_of_trigger .resetLine { s with resetN := true }⟩,
    ⟨_, rfl, ⟨rfl, ?_, ?_⟩, keepLevel_false s.dnTx⟩, fun a b hs hdone hcode => ?_⟩
  · simp only [lineLevels, enterStarting, restartPorts, keepLevel_false, List.nil_append]
  · exact keepLevel_not_forwarded false s.dnTx
  · have ended : transmissionEnded (.answer a b) { s with upTx := none } =
        triggerRestart .restartDirective { s with upTx := none } :=
      if_pos ⟨hdone, by rw [hcode]; rfl⟩
    refine ⟨startPorts (transmissionEnded (.answer a b) { s with upTx := none }), ?_, ?_⟩
    · change execEndOfTransmission s = _
      simp only [execEndOfTransmission, hs]
    · rw [ended]
      exact restarted_of_trigger .restartDirective { s with upTx := none }

/-! ## The end of a transmission (R144, R151, R176) -/

/-- The end of a transmission on UP_TX. -/
theorem exec_endOfTransmission {s : State} {x : UpTransmission} (h : s.upTx = some x) :
    exec .endOfTransmission s = .next (startPorts (transmissionEnded x { s with upTx := none })) := by
  change execEndOfTransmission s = _
  simp only [execEndOfTransmission, h]

/-- Only the DONE answer to RESTART or BYPASS has an effect when it has left (R151). -/
theorem transmissionEnded_of_other {x : UpTransmission}
    (h : ∀ a b, x = .answer a b → a.outcome = .done → a.code ≠ 5 ∧ a.code ≠ 6) (s : State) :
    transmissionEnded x s = s := by
  cases x with
  | answer a b =>
    have other : ∀ n : Byte, a.code ≠ n → ¬ a.code.toNat = n.toNat := fun n h => mt BitVec.eq_of_toNat_eq h
    simp only [transmissionEnded, answerLeft]
    rw [if_neg fun hd => other 5 (h a b rfl hd.1).1 hd.2, if_neg fun hd => other 6 (h a b rfl hd.1).2 hd.2]
  | report => rfl
  | forwarded => rfl

theorem transmissionEnded_of_bypass {a : Answer} (hdone : a.outcome = .done) (hcode : a.code = 6) (b : Frame) (s : State) :
    transmissionEnded (.answer a b) s = enterBypass s := by
  simp only [transmissionEnded, answerLeft]
  rw [if_neg (by rw [hcode]; simp [codeRestart]), if_pos ⟨hdone, by rw [hcode]; rfl⟩]

/-- The slots after the entry into BYPASS have their segments reset. -/
theorem enterBypass_slot (s : State) (i : SlotNo) : (enterBypass s).slots[i] = s.slots[i].map resetTracker := by
  have aborted : (abortRun s).slots = s.slots := by
    unfold abortRun
    split
    · rfl
    · exact (requestReport_keeps _ _).1
  have reset := mapSlots_slot (fun _ m => resetTracker m) (abortRun s) i
  rw [aborted] at reset
  exact reset

/-- BYPASS but for the segments of the slots: the run ends as an abort. -/
theorem enterBypass_eq (s : State) :
    enterBypass s = { abortRun s with engine := .bypass, takingSuspended := false, slots := (enterBypass s).slots } := by
  unfold enterBypass
  generalize abortRun s = u
  simp only [resetAllSegments, mapSlots]

/-- Settles O5: the answer that has left decides between nothing, a restart and the entry into BYPASS. -/
theorem endOfTransmissionActs : Obligations.EndOfTransmissionActs := by
  refine ⟨fun s x hx h => ?_, fun s a b hx hdone hcode => ?_⟩
  · rw [exec_endOfTransmission hx, transmissionEnded_of_other h]
  · let v : State := { s with upTx := none }
    refine ⟨enterBypass v, ?_, enterBypass_slot v, fun hr => ?_, fun hr => ?_⟩
    · rw [exec_endOfTransmission hx, transmissionEnded_of_bypass hdone hcode]
    · have aborted : abortRun v = v := by simp only [abortRun, v, hr]
      rw [enterBypass_eq, aborted]
    · obtain ⟨r, hr⟩ := Option.ne_none_iff_exists'.1 hr
      have aborted : abortRun v = planReport .aborted false { v with run := none } := by simp only [abortRun, v, hr]
      rw [enterBypass_eq, aborted]
      rfl

/-! ## Breaks and short levels (R139, R147, R148) -/

/-- A row of the table of R147 gives the count after the break. -/
theorem judgeBreak_of_row {count n : Nat} {pol : Polarity} {late : Prop} [Decidable late] (h : breakRow count pol late n) :
    judgeBreak count pol (decide late) = some n := by
  rcases h with ⟨rfl, rfl, rfl⟩ | ⟨rfl, rfl, rfl⟩ | ⟨rfl, rfl, hl, rfl⟩ | ⟨rfl, rfl, hl, rfl⟩ | ⟨rfl, rfl, hl, rfl⟩ |
    ⟨rfl, rfl, hl, rfl⟩ | ⟨rfl, rfl, hl, rfl⟩ | ⟨rfl | rfl, rfl, rfl⟩ | ⟨rfl, rfl, rfl⟩ <;>
    simp [judgeBreak, *]

/-- A frame under way is cut off and the break waits to be repeated. -/
theorem repeatLevel_cutUp (pol : Polarity) (start stop idle : Nat) (s : State) :
    repeatLevel pol start stop idle (cutUp s) = { s with
      upReceiving := false
      counters := if s.upReceiving then malformedCounted s.counters else s.counters
      repeats := s.repeats ++ [{ pol := pol, duration := stop - start, idle := idle }] } := by
  unfold cutUp
  split
  next h => rfl
  next h =>
    have idle : s.upReceiving = false := eq_false_of_ne_true h
    simp only [repeatLevel, idle]

theorem exec_lineBreak {s : State} (hn : s.resetN = true) {start stop : Nat} (hs : start + 20 ≤ stop) (pol : Polarity)
    (idle : Nat) : exec (.lineBreak pol start stop idle) s =
      .next (startPorts (judgeAt pol start stop (repeatLevel pol start stop idle (cutUp s)))) :=
  congrArg Host.Outcome.next (if_pos ⟨hn, hs⟩)

/-- A break judged by a row of the table of R147. -/
theorem judgeAt_of_row {s : State} {pol : Polarity} {start n : Nat}
    (h : breakRow s.patternCount pol (s.lastBreakEnd + 1000 < start) n) (stop : Nat) :
    judgeAt pol start stop s =
      { s with patternCount := n, lastBreakEnd := if n = 0 then s.lastBreakEnd else stop } := by
  have late : decide (Config.patternGapMicros < start - s.lastBreakEnd) = decide (s.lastBreakEnd + 1000 < start) :=
    decide_eq_decide.2 Nat.lt_sub_iff_add_lt'
  simp only [judgeAt, late, judgeBreak_of_row h]

/-- The fourth break of the pattern, in time, triggers a restart. -/
theorem judgeAt_of_pattern {s : State} {start : Nat} (hc : s.patternCount = 3) (hl : ¬ s.lastBreakEnd + 1000 < start)
    (stop : Nat) : judgeAt .mark start stop s = triggerRestart .linkReset { s with patternCount := 0 } := by
  have early : decide (Config.patternGapMicros < start - s.lastBreakEnd) = false :=
    decide_eq_false fun h => hl (Nat.lt_sub_iff_add_lt'.1 h)
  simp only [judgeAt, hc, early, judgeBreak]

/-- Settles O7: the break is cut off, repeated and judged by its row. -/
theorem breakJudged : Obligations.BreakJudged := by
  intro s pol start stop idle hn hs late cut
  have run := exec_lineBreak hn hs pol idle
  rw [repeatLevel_cutUp] at run
  refine ⟨fun n hrow => ?_, fun hc hpol hl => ?_⟩
  · rw [run]
    exact congrArg (fun u => Host.Outcome.next (startPorts u)) (judgeAt_of_row (s := cut) hrow stop)
  · subst hpol
    have judged := judgeAt_of_pattern (s := cut) hc hl stop
    exact ⟨_, run, judged ▸ restarted_of_trigger .linkReset { cut with patternCount := 0 }⟩

/-- A judged break leaves the levels: a trigger by the pattern spares them (R148). -/
theorem lineLevels_judgeAt (pol : Polarity) (start stop : Nat) (s : State) :
    lineLevels (judgeAt pol start stop s) = lineLevels s := by
  unfold judgeAt
  split
  · exact lineLevels_triggerRestart .linkReset _
  · rfl

/-- Settles O8: what the ports start takes the first waiting level, and a break or departure adds one at the end. -/
theorem levelsRepeatedAndFramesCut : Obligations.LevelsRepeatedAndFramesCut := by
  intro s
  refine ⟨lineLevels_startPorts s, fun pol start stop idle t hn hs h => ?_, fun pol start stop idle hn hu hle hs => ?_,
    fun hn => ?_, fun hn => ?_, fun hd => ?_, fun hd => ?_⟩
  · rw [exec_lineBreak hn hs, repeatLevel_cutUp] at h
    cases h
    rw [lineLevels_startPorts, lineLevels_judgeAt]
    exact (List.append_assoc _ _ _).symm
  · exact congrArg Host.Outcome.next (if_pos ⟨hn, hu, hle, hs⟩)
  · exact congrArg Host.Outcome.next (if_pos hn)
  · exact congrArg Host.Outcome.next (if_pos hn)
  · exact congrArg Host.Outcome.next (if_pos hd)
  · exact congrArg Host.Outcome.next (if_neg (by simp [hd]))

end Sys2Proof.Machine
end

section
/-! SUPPORT. Frames and their arrival at either port, by the rows of R141 and R142; the proofs of O9 to O11. -/

namespace Sys2Proof.Machine

/-! ## Bytes (R179) -/

theorem toBytes_one (v : Nat) : toBytes 1 v = [BitVec.ofNat 8 v] := rfl

theorem toBytes_two (v : Nat) : toBytes 2 v = [BitVec.ofNat 8 (v / 256), BitVec.ofNat 8 v] := rfl

theorem toNat_ofNat_byte {v : Nat} (h : v < 256) : (BitVec.ofNat 8 v).toNat = v := by
  rw [BitVec.toNat_ofNat]
  exact Nat.mod_eq_of_lt h

/-- A number of 16 bits reads back from its two bytes. -/
theorem unsignedAt_toBytes_two {v : Nat} (h : v < 65536) (pre : List Byte) :
    unsignedAt (pre ++ toBytes 2 v) pre.length 2 = v := by
  rw [unsignedAt, List.drop_left, toBytes_two]
  simp only [List.take_succ_cons, List.take_zero, List.foldl_cons, List.foldl_nil, BitVec.toNat_ofNat]
  omega

/-! ## Built frames -/

/-- The bytes of a built frame before its check. -/
def frameBody (kind address : Nat) (tag : Byte) (payload : List Byte) : List Byte :=
  BitVec.ofNat 8 kind :: BitVec.ofNat 8 address :: tag :: BitVec.ofNat 8 payload.length :: payload

theorem buildFrame_eq (kind address : Nat) (tag : Byte) (payload : List Byte) :
    buildFrame kind address tag payload = frameBody kind address tag payload ++
      toBytes 2 (frameCheck (frameBody kind address tag payload)).toNat := rfl

theorem frameBody_length (kind address : Nat) (tag : Byte) (payload : List Byte) :
    (frameBody kind address tag payload).length = payload.length + 4 := rfl

theorem wellFormedFrame_iff (f : Frame) : lengthRule f = true ↔ wellFormedFrame f := by
  simp [lengthRule, wellFormedFrame]

/-- The check of a built frame is good. -/
theorem goodCheck_buildFrame (kind address : Nat) (tag : Byte) (payload : List Byte) :
    goodCheck (buildFrame kind address tag payload) = true := by
  rw [buildFrame_eq]
  generalize frameBody kind address tag payload = body
  have len : (body ++ toBytes 2 (frameCheck body).toNat).length - 2 = body.length := by
    rw [List.length_append, toBytes_two]
    rfl
  simp only [goodCheck, len, List.take_left, beq_iff_eq]
  exact (unsignedAt_toBytes_two (frameCheck body).isLt body).symm

/-- Settles O11: the four header bytes and the payload stand where the frame is read. -/
theorem builtFramesAreGood : Obligations.BuiltFramesAreGood := by
  intro kind address tag payload hkind haddress hlen f
  have len : f.length = payload.length + 6 := by
    simp only [f, buildFrame_eq, List.length_append, frameBody_length, toBytes_two, List.length_cons, List.length_nil]
  have count : byteAt f 3 = payload.length := toNat_ofNat_byte (v := payload.length) (by omega)
  have formed : wellFormedFrame f := ⟨by omega, by omega⟩
  refine ⟨len, formed, (wellFormedFrame_iff f).2 formed, goodCheck_buildFrame kind address tag payload,
    toNat_ofNat_byte hkind, toNat_ofNat_byte haddress, rfl, ?_⟩
  simp only [framePayload, len, Nat.add_sub_cancel]
  exact List.take_left

/-! ## Arrival (R139 to R143, R150) -/

theorem forwardUp_of_room {f : Frame} {u : State} (h : u.upQueue.length < 8) :
    forwardUp f u = { u with upQueue := u.upQueue ++ [f] } := if_pos h

theorem forwardUp_of_full {f : Frame} {u : State} (h : 8 ≤ u.upQueue.length) : forwardUp f u = countUpOverflow u :=
  if_neg (Nat.not_lt.2 h)

theorem forwardDown_of_room {f : Frame} {u : State} (h : u.dnQueue.length < 4) :
    forwardDown f u = { u with dnQueue := u.dnQueue ++ [f] } := if_pos h

theorem forwardDown_of_full {f : Frame} {u : State} (h : 4 ≤ u.dnQueue.length) :
    forwardDown f u = countDownOverflow u := if_neg (Nat.not_lt.2 h)

theorem offerDirective_of_room {d : DirectiveFrame} {u : State} (h : u.directiveQueue.length < 4) :
    offerDirective d u = { u with directiveQueue := u.directiveQueue ++ [d] } := if_pos h

theorem offerDirective_of_full {d : DirectiveFrame} {u : State} (h : 4 ≤ u.directiveQueue.length) :
    offerDirective d u = countDirectiveOverflow u := if_neg (Nat.not_lt.2 h)

/-- Queueing a frame for the up-port leaves the engine state. -/
theorem forwardUp_engine (f : Frame) (u : State) : (forwardUp f u).engine = u.engine := by
  unfold forwardUp
  split <;> rfl

theorem noteCheck_of_good {f : Frame} (h : goodCheck f = true) (u : State) : noteCheck f u = u := if_pos h

theorem noteCheck_of_bad {f : Frame} (h : goodCheck f = false) (u : State) : noteCheck f u = countBadCheck u :=
  if_neg (by simp [h])

section
variable {f : Frame} {u : State}

theorem lengthRule_eq_false (h : ¬ wellFormedFrame f) : lengthRule f = false :=
  eq_false_of_ne_true (mt (wellFormedFrame_iff f).1 h)

theorem arriveDown_of_long (h : 246 < f.length) : arriveDown f u = countMalformed u := if_pos h

theorem arriveDown_of_malformed (h : f.length ≤ 246) (hw : ¬ wellFormedFrame f) :
    arriveDown f u = forwardUp f (countMalformed u) :=
  (if_neg (Nat.not_lt.2 h)).trans (if_pos (lengthRule_eq_false hw))

theorem arriveDown_of_wellFormed (h : f.length ≤ 246) (hw : wellFormedFrame f) :
    arriveDown f u = if observed (forwardUp f (noteCheck f u)) f then
      observe (frameAddress f) (framePayload f) (forwardUp f (noteCheck f u)) else forwardUp f (noteCheck f u) :=
  (if_neg (Nat.not_lt.2 h)).trans (if_neg (by rw [(wellFormedFrame_iff f).2 hw]; exact Bool.noConfusion))

theorem inNodeRange_iff (a : Nat) : inNodeRange a = true ↔ 1 ≤ a ∧ a ≤ 16 := by simp [inNodeRange]

/-- A frame is observed exactly when it is a SAMPLE frame of a node with a good check, and the engine is ACTIVE. -/
theorem observed_iff : observed u f = true ↔
    (u.engine = .active ∧ byteAt f 0 = 1 ∧ 1 ≤ byteAt f 1 ∧ byteAt f 1 ≤ 16) ∧ goodCheck f = true := by
  simp only [observed, frameKind, kindSample, frameAddress, inNodeRange_iff, Bool.and_eq_true, beq_iff_eq]
  tauto

theorem arriveUp_of_long (h : 246 < f.length) : arriveUp f u = countMalformed u := if_pos h

theorem arriveUp_of_malformed (h : f.length ≤ 246) (hw : ¬ wellFormedFrame f) :
    arriveUp f u = forwardDown f (countMalformed u) :=
  (if_neg (Nat.not_lt.2 h)).trans (if_pos (lengthRule_eq_false hw))

theorem arriveUp_of_wellFormed (h : f.length ≤ 246) (hw : wellFormedFrame f) :
    arriveUp f u = if forEngine u f then
      if goodCheck f then offerDirective { tag := frameTag f, payload := framePayload f } u else countBadCheck u
    else forwardDown f (noteCheck f u) :=
  (if_neg (Nat.not_lt.2 h)).trans (if_neg (by rw [(wellFormedFrame_iff f).2 hw]; exact Bool.noConfusion))

theorem forEngine_iff : forEngine u f = true ↔
    u.engine ≠ .starting ∧ byteAt f 0 = 2 ∧ byteAt f 1 = u.engineAddress := by
  simp only [forEngine, frameKind, kindDirective, frameAddress, Bool.and_eq_true, beq_iff_eq, bne_iff_ne]
  tauto

end

/-- Settles O9: the rows of R141, each with the tests before it. -/
theorem downPortArrivalRows : Obligations.DownPortArrivalRows := by
  intro s e f hn a
  have run : exec (.downPortArrival e f) s = .next (startPorts (arriveDown f a)) :=
    congrArg Host.Outcome.next (if_pos hn)
  have next : ∀ {u}, arriveDown f a = u → exec (.downPortArrival e f) s = .next (startPorts u) := fun h =>
    run.trans (congrArg (fun u => Host.Outcome.next (startPorts u)) h)
  refine ⟨fun u => forwardUp_of_room, fun u => forwardUp_of_full, fun h => next (arriveDown_of_long h),
    fun h hw => next (arriveDown_of_malformed h hw), fun h hw hc => next ?_, fun h hw hc ho => next ?_,
    fun h hw hc he hk h1 h16 => next ?_⟩ <;> rw [arriveDown_of_wellFormed h hw]
  · rw [noteCheck_of_bad hc, if_neg (by simp [observed_iff, hc])]
    rfl
  · rw [noteCheck_of_good hc, if_neg]
    rw [observed_iff, forwardUp_engine]
    exact fun h => ho h.1
  · rw [noteCheck_of_good hc, if_pos]
    · rfl
    · rw [observed_iff, forwardUp_engine]
      exact ⟨⟨he, hk, h1, h16⟩, hc⟩

/-- Settles O10: the rows of R142, each with the tests before it. -/
theorem upPortArrivalRows : Obligations.UpPortArrivalRows := by
  intro s f hn a mine
  have run : exec (.upPortArrival f) s = .next (startPorts (arriveUp f a)) :=
    congrArg Host.Outcome.next (if_pos hn)
  have next : ∀ {u}, arriveUp f a = u → exec (.upPortArrival f) s = .next (startPorts u) := fun h =>
    run.trans (congrArg (fun u => Host.Outcome.next (startPorts u)) h)
  have engine : forEngine a f = true ↔ mine := forEngine_iff
  refine ⟨fun u => forwardDown_of_room, fun u => forwardDown_of_full, fun h => next (arriveUp_of_long h),
    fun h hw => next (arriveUp_of_malformed h hw), fun h hw hc hm hq => next ?_, fun h hw hc hm hq => next ?_,
    fun h hw hc hm => next ?_, fun h hw hm => next ?_⟩ <;> rw [arriveUp_of_wellFormed h hw]
  · rw [if_pos (engine.2 hm), if_pos hc]
    exact offerDirective_of_room hq
  · rw [if_pos (engine.2 hm), if_pos hc]
    exact offerDirective_of_full hq
  · rw [if_pos (engine.2 hm), if_neg (by simp [hc])]
    rfl
  · rw [if_neg (mt engine.1 hm)]
    rfl

end Sys2Proof.Machine
end

section
/-! SUPPORT. What a report request does, case by case (R160, R161); the proof of O26. -/

namespace Sys2Proof.Machine

/-- The kind passes the mask, or needs none (R160). -/
theorem passesMask_iff (mask : BitVec 8) (k : ReportKind) :
    passesMask mask k = true ↔ k = .start ∨ k = .attention ∨ mask.getLsbD k.code = true := by
  cases k <;> simp [passesMask]

/-- Every kind but ATTENTION sets its flag (R160). -/
theorem flagsAfterRequest_eq (flags : BitVec 10) (k : ReportKind) :
    flagsAfterRequest flags k = if k = .attention then flags else flags ||| BitVec.ofNat 10 (2 ^ k.code) := by
  cases k <;> rfl

section
variable {r : Report} {s : State}

theorem requestReport_of_masked (h : passesMask s.reportMask r.kind = false) :
    requestReport r s = { s with causeFlags := flagsAfterRequest s.causeFlags r.kind } :=
  if_neg (by simp [h])

/-- A kind that passes the mask is placed in the queue. -/
theorem requestReport_of_passes (h : passesMask s.reportMask r.kind = true) :
    requestReport r s = placeReport r { s with causeFlags := flagsAfterRequest s.causeFlags r.kind } := if_pos h

/-- No waiting report has the kind and slot of `r`. -/
def Unmatched (r : Report) (l : List Report) : Prop := ∀ w ∈ l, ¬ (w.kind = r.kind ∧ w.slot = r.slot)

theorem any_sameKey_eq_false {l : List Report} (h : Unmatched r l) : (l.any fun w => Report.sameKey w r) = false := by
  simp only [List.any_eq_false, Bool.not_eq_true]
  exact fun w hw => eq_false_of_ne_true fun hk => h w hw ((sameKey_iff w r).1 hk)

theorem placeReport_of_room (h : Unmatched r s.reports) (hl : s.reports.length < 16) :
    placeReport r s = { s with reports := s.reports ++ [r] } := by
  unfold placeReport
  rw [any_sameKey_eq_false h]
  exact if_pos hl

theorem placeReport_of_full (h : Unmatched r s.reports) (hl : 16 ≤ s.reports.length) :
    placeReport r s = countReportOverflow { s with causeFlags := s.causeFlags ||| 512 } := by
  unfold placeReport
  rw [any_sameKey_eq_false h]
  exact if_neg (Nat.not_lt.2 hl)

/-- The one waiting report of the kind and slot takes in the request. -/
theorem placeReport_of_match {w : Report} {pre post : List Report} (h : s.reports = pre ++ w :: post)
    (hw : w.kind = r.kind ∧ w.slot = r.slot) (ho : Unmatched r (pre ++ post)) :
    placeReport r s = { s with reports := pre ++ Report.merge w r :: post } := by
  have matched : Report.sameKey w r = true := (sameKey_iff w r).2 hw
  have found : (s.reports.any fun w => Report.sameKey w r) = true := by simp [h, matched]
  have others : ∀ l : List Report, (∀ v ∈ l, v ∈ pre ++ post) →
      l.map (fun w => if Report.sameKey w r then Report.merge w r else w) = l := fun l hl =>
    List.map_congr_left (g := id) (fun v hv => if_neg fun hk => ho v (hl v hv) ((sameKey_iff v r).1 hk)) |>.trans
      (List.map_id l)
  have merged := others pre fun v => List.mem_append_left post
  have kept := others post fun v => List.mem_append_right pre
  unfold placeReport
  rw [if_pos found, h, List.map_append, List.map_cons, if_pos matched, merged, kept]

end

/-- A FIGURE report takes in the figures of the request, any other kind its content (R161). -/
theorem merge_of_not_figure {w r : Report} (h : r.kind ≠ .figure) : Report.merge w r = r := by
  cases r
  case figure => exact absurd rfl h
  all_goals cases w <;> rfl

/-- Settles O26: the flag first, then the mask, then the queue. -/
theorem reportPlaced : Obligations.ReportPlaced := by
  intro r s flags passes
  have flagged : flagsAfterRequest s.causeFlags r.kind = flags := flagsAfterRequest_eq _ _
  have passing : passes → passesMask s.reportMask r.kind = true := (passesMask_iff _ _).2
  refine ⟨fun h => ?_, fun h hu => ⟨fun hl => ?_, fun hl => ?_⟩, fun h pre w post hs hk hslot ho => ⟨?_, fun hf => ?_⟩⟩
  · rw [requestReport_of_masked (eq_false_of_ne_true (mt (passesMask_iff _ _).1 h)), flagged]
  · rw [requestReport_of_passes (passing h), flagged]
    exact placeReport_of_room hu hl
  · rw [requestReport_of_passes (passing h), flagged]
    exact placeReport_of_full hu hl
  · rintro i a b rfl rfl
    rw [requestReport_of_passes (passing h), flagged]
    exact placeReport_of_match (s := { s with causeFlags := flags }) hs ⟨hk, hslot⟩ ho
  · rw [requestReport_of_passes (passing h), flagged,
      placeReport_of_match (s := { s with causeFlags := flags }) hs ⟨hk, hslot⟩ ho, merge_of_not_figure hf]

end Sys2Proof.Machine
end

section
/-! SUPPORT. What START_UP leaves, stage by stage (R174, R175); the proofs of O12 to O14. -/

namespace Sys2Proof.Machine

/-! ## The stages -/

/-- Clearing, loading and restoring, before the engine is ACTIVE (R174). -/
def started (straps : BitVec 5) (e : Nat) (s : State) : State := slotsStage (loadingStage straps (clearingStage e s))

/-- Stage 3 works on slots, places, string records and the install result. -/
theorem slotsStage_eq (s : State) :
    slotsStage s = { s with
      slots := (slotsStage s).slots, places := (slotsStage s).places, records := (slotsStage s).records,
      installResult := (slotsStage s).installResult } := by
  have restored : ∀ u : State, restoreInstall u = { u with
      slots := (restoreInstall u).slots, places := (restoreInstall u).places,
      installResult := (restoreInstall u).installResult } := by
    intro u
    unfold restoreInstall
    split <;> [skip; split]
    · rfl
    · rw [restoreRecords_eq, restoreFold_work]
    · rfl
  simp only [slotsStage, recordsFromFixed]
  rw [restored]

/-- The boot grade image, or its absence, sets the rows and their origin. -/
theorem loadBootTable_eq (s : State) :
    loadBootTable s = { s with
      rows := (loadBootTable s).rows, origin := (loadBootTable s).origin, modified := false } := by
  unfold loadBootTable
  split <;> rfl

/-- Stage 2 works on the tables, the mask, the address and the valid marks found. -/
theorem loadingStage_eq (straps : BitVec 5) (s : State) :
    loadingStage straps s = { loadImages s with
      rows := (loadBootTable (loadImages s)).rows
      origin := (loadBootTable (loadImages s)).origin
      modified := false
      reportMask := (loadImages s).settings.defaultMask
      foundValid := validMarks s.store
      adrPins := straps
      engineAddress := (loadingStage straps s).engineAddress
      addressDefaulted := (loadingStage straps s).addressDefaulted } := by
  simp only [loadingStage, formAddress]
  rw [loadBootTable_eq (loadImages s)]
  rfl

/-- The START report sets its flag and, whatever the mask, joins the empty queue (R160, R161). -/
theorem activationStage_eq {s : State} (hf : s.causeFlags = 0) (hr : s.reports = []) :
    activationStage s = { s with engine := .active, causeFlags := 256, reports := [startReport s] } := by
  have placed := placeReport_of_room (r := startReport s)
    (s := { s with engine := .active, causeFlags := flagsAfterRequest s.causeFlags .start })
    (by rw [Unmatched, hr]; nofun) (by simp [hr])
  have flags : flagsAfterRequest 0 .start = 256 := by decide
  refine (requestReport_of_passes (r := startReport s) rfl).trans (placed.trans ?_)
  rw [hf, flags, hr]
  rfl

/-! ## The result -/

/-- A lone report leaves the queue of an ACTIVE engine with idle ports, and a level may start on the other port. -/
theorem startPorts_of_lone_report {w : State} {r : Report} (hn : w.resetN = true) (hup : w.upTx = none)
    (ha : w.answer = none) (he : w.engine = .active) (hq : w.upQueue = []) (hd : w.dnQueue = []) (hr : w.reports = [r]) :
    ∃ dnTx repeats, startPorts w = { w with
      dnTx := dnTx, repeats := repeats, reports := [], arbiterCount := 0, reportCount := w.reportCount + 1
      upTx := some (.report r (buildFrame 4 w.engineAddress (BitVec.ofNat 8 w.reportCount) (reportPayload r))) } := by
  obtain ⟨dnTx, repeats, down, -⟩ := startDownPort_of_levels hd
  refine ⟨dnTx, repeats, ?_⟩
  rw [startPorts_of_high hn, down]
  exact startUpPort_of_report hup ha he hr (.inl hq)

/-- What stages 1 to 3 leave of the queues, marks, counters and registers (R174). -/
theorem started_eq (straps : BitVec 5) (e : Nat) (s : State) :
    ∃ c : State, started straps e s = { clearingStage e s with
      settings := c.settings, profiles := c.profiles, curves := c.curves, slotMap := c.slotMap, bank := c.bank
      rows := c.rows, origin := c.origin, modified := c.modified, reportMask := c.reportMask
      foundValid := validMarks s.store, adrPins := c.adrPins, engineAddress := c.engineAddress
      addressDefaulted := c.addressDefaulted, slots := c.slots, places := c.places, records := c.records
      installResult := c.installResult } := by
  refine ⟨started straps e s, ?_⟩
  unfold started
  rw [slotsStage_eq, loadingStage_eq]
  rfl

/-- The state START_UP leaves: that of stages 1 to 3, ACTIVE, with the START report on its way. -/
theorem exec_startUp {s : State} (he : s.engine = .starting) (hn : s.resetN = true) (straps : BitVec 5) (e : Nat) :
    ∃ t dnTx repeats, exec (.startUp straps e) s = .next t ∧ lineLevels t = lineLevels (clearingStage e s) ∧
      t = { started straps e s with
        engine := .active, causeFlags := 256, dnTx := dnTx, repeats := repeats, reports := [], arbiterCount := 0
        reportCount := 1
        upTx := some (.report (startReport (started straps e s))
          (buildFrame 4 (started straps e s).engineAddress 0 (reportPayload (startReport (started straps e s))))) } := by
  obtain ⟨c, hc⟩ := started_eq straps e s
  have active : activationStage (started straps e s) = { started straps e s with
      engine := .active, causeFlags := 256, reports := [startReport (started straps e s)] } :=
    activationStage_eq (by rw [hc]; rfl) (by rw [hc]; rfl)
  have run : exec (.startUp straps e) s = .next (startPorts (activationStage (started straps e s))) :=
    congrArg Host.Outcome.next (if_pos ⟨he, hn⟩)
  have levels : lineLevels (activationStage (started straps e s)) = lineLevels (clearingStage e s) := by
    rw [active, hc]
    rfl
  have count : (started straps e s).reportCount = 0 := by rw [hc]; rfl
  obtain ⟨dnTx, repeats, sent⟩ := startPorts_of_lone_report (r := startReport (started straps e s))
    (w := activationStage (started straps e s)) (by rw [active, hc]; exact hn) (by rw [active, hc]; rfl)
    (by rw [active, hc]; rfl) (by rw [active]) (by rw [active, hc]; rfl) (by rw [active, hc]; rfl) (by rw [active])
  refine ⟨_, dnTx, repeats, run, (lineLevels_startPorts _).trans levels, ?_⟩
  rw [sent, active, count]
  rfl

/-- Settles O12: stage 1 clears, and what follows leaves what it cleared. -/
theorem startUpClears : Obligations.StartUpClears := by
  intro s straps e he hn
  obtain ⟨t, dnTx, repeats, run, levels, ht⟩ := exec_startUp he hn straps e
  obtain ⟨c, hc⟩ := started_eq straps e s
  have nodes : ∀ k : Fin 16, t.nodes[k] = NodeEntry.initial := fun k => by
    rw [ht, hc]
    simp [clearingStage]
  have spared : lineLevels (clearingStage e s) =
      if s.restartCause = .linkReset then lineLevels s else s.repeats := by
    refine (lineLevels_triggerRestart s.restartCause s).trans ?_
    simp only [sparesLevel, beq_iff_eq]
  rw [hc] at ht
  subst ht
  exact ⟨_, run, rfl, rfl, rfl, rfl, rfl, rfl, rfl, rfl, rfl, rfl, levels.trans spared, rfl, rfl, rfl, rfl, rfl, rfl, rfl,
    rfl, rfl, rfl, rfl, rfl, nodes, rfl, rfl, rfl, rfl, rfl⟩

theorem clearingStage_store (e : Nat) (s : State) : (clearingStage e s).store = s.store := rfl

/-! ## Loading (R146, R166, R172) -/

/-- Stages 3 to 5 leave what stage 2 has loaded. -/
theorem started_loaded (straps : BitVec 5) (e : Nat) (s : State) :
    let v := started straps e s
    let u := loadImages (clearingStage e s)
    v.settings = u.settings ∧ v.profiles = u.profiles ∧ v.curves = u.curves ∧ v.slotMap = u.slotMap ∧ v.bank = u.bank ∧
      v.reportMask = u.settings.defaultMask ∧ v.modified = false ∧ v.rows = (loadBootTable u).rows ∧
      v.origin = (loadBootTable u).origin ∧
      v.engineAddress = (formAddress straps u).engineAddress ∧
      v.addressDefaulted = (formAddress straps u).addressDefaulted := by
  intro v u
  have address : (loadingStage straps (clearingStage e s)).engineAddress = (formAddress straps u).engineAddress ∧
      (loadingStage straps (clearingStage e s)).addressDefaulted = (formAddress straps u).addressDefaulted := by
    simp only [loadingStage]
    rw [loadBootTable_eq]
    exact ⟨rfl, rfl⟩
  simp only [v, started]
  rw [slotsStage_eq, loadingStage_eq]
  exact ⟨rfl, rfl, rfl, rfl, rfl, rfl, rfl, rfl, rfl, address⟩

/-- Images 5 to 8 are the grade images in order. -/
theorem gradeImage_add (g : GradeImage) : gradeImage (g.val + 5) = some g := by
  unfold gradeImage
  rw [dif_pos (by omega)]
  exact congrArg some (Fin.ext (Nat.add_sub_cancel _ _))

/-- The rows of the boot grade image, when it is one of the grade images (R84). -/
theorem loadBootTable_of_image {u : State} {g : GradeImage} (h : u.settings.bootImage = g.val + 5) :
    (∀ rows, u.store.grades[g] = some rows → (loadBootTable u).rows = rows ∧ (loadBootTable u).origin = some g) ∧
    (u.store.grades[g] = none →
      (loadBootTable u).rows = Vector.replicate 16 GradeRow.empty ∧ (loadBootTable u).origin = none) := by
  have image : gradeImage u.settings.bootImage = some g := h ▸ gradeImage_add g
  refine ⟨fun rows hg => ?_, fun hg => ?_⟩ <;>
    simp only [loadBootTable, image, Option.bind_some, hg, Option.map_some, Option.map_none, and_self]

/-- The address bits, each from its strap or the stored address (R146). -/
theorem addressBits_eq {c : Settings} {straps a : BitVec 5}
    (h : ∀ k : Fin 5, a.getLsbD k =
      if c.addressSource.getLsbD k then c.storedAddress.getLsbD k else straps.getLsbD k) :
    addressBits c straps = a.toNat := by
  unfold addressBits
  congr 1
  refine BitVec.eq_of_getLsbD_eq fun k hk => ?_
  have bit := h ⟨k, hk⟩
  simp only [BitVec.getLsbD_or, BitVec.getLsbD_and, BitVec.getLsbD_not, hk, decide_true, Bool.true_and]
  rw [bit]
  cases c.addressSource.getLsbD k <;> simp

/-- The address is taken when it lies in 17 to 30, and otherwise defaulted (R146). -/
theorem formAddress_of_bits {u : State} {straps : BitVec 5} {a : Nat} (h : addressBits u.settings straps = a) :
    (17 ≤ a ∧ a ≤ 30 →
      (formAddress straps u).engineAddress = a ∧ (formAddress straps u).addressDefaulted = false) ∧
    (a < 17 ∨ 30 < a →
      (formAddress straps u).engineAddress = 30 ∧ (formAddress straps u).addressDefaulted = true) := by
  simp only [formAddress, h]
  refine ⟨fun hin => ?_, fun hout => ?_⟩
  · have inside : addressOutside a = false := by simp [addressOutside]; omega
    rw [inside]
    exact ⟨rfl, rfl⟩
  · have outside : addressOutside a = true := by simp [addressOutside]; omega
    rw [outside]
    exact ⟨rfl, rfl⟩

/-- Settles O13: what stage 2 loads is what the engine has when it is ACTIVE. -/
theorem startUpLoads : Obligations.StartUpLoads := by
  intro s straps e he hn
  obtain ⟨t, dnTx, repeats, run, -, ht⟩ := exec_startUp he hn straps e
  obtain ⟨settings, profiles, curves, slotMap, bank, mask, modified, rows, origin, address, defaulted⟩ :=
    started_loaded straps e s
  subst ht
  let u := loadImages (clearingStage e s)
  have boot : ∀ g : GradeImage, (started straps e s).settings.bootImage = g.val + 5 → u.settings.bootImage = g.val + 5 :=
    fun g hg => settings ▸ hg
  have bits : ∀ a : BitVec 5, (∀ k : Fin 5, a.getLsbD k =
      if (started straps e s).settings.addressSource.getLsbD k then
        (started straps e s).settings.storedAddress.getLsbD k else straps.getLsbD k) →
      addressBits u.settings straps = a.toNat := fun a ha => addressBits_eq (settings ▸ ha)
  refine ⟨_, run, settings, fun c hc => ⟨profiles.trans ?_, curves.trans ?_⟩, fun hc => ⟨profiles.trans ?_, curves.trans ?_⟩,
    slotMap, bank, mask.trans (congrArg Settings.defaultMask settings.symm), modified,
    fun g hg => ⟨fun r hr => ?_, fun hr => ?_⟩, fun a ha => ⟨fun hin => ?_, fun hout => ?_⟩⟩
  · simp only [loadImages, clearingStage_store, hc]
  · simp only [loadImages, clearingStage_store, hc]
  · simp only [loadImages, clearingStage_store, hc]
  · simp only [loadImages, clearingStage_store, hc]
  · obtain ⟨h, h'⟩ := (loadBootTable_of_image (boot g hg)).1 r hr
    exact ⟨rows.trans h, origin.trans h'⟩
  · obtain ⟨h, h'⟩ := (loadBootTable_of_image (boot g hg)).2 hr
    exact ⟨rows.trans h, origin.trans h'⟩
  · obtain ⟨h, h'⟩ := (formAddress_of_bits (u := u) (bits a ha)).1 hin
    exact ⟨address.trans h, defaulted.trans h'⟩
  · obtain ⟨h, h'⟩ := (formAddress_of_bits (u := u) (bits a ha)).2 hout
    exact ⟨address.trans h, defaulted.trans h'⟩

/-! ## Restoring (R175, R15) -/

/-- After restoring slots one after another, a place holds one of those restored into it, or what it held. -/
theorem restoreFold_place (l : List (PlaceNo × InstalledSlot)) (s : State) (p : PlaceNo) :
    (p ∉ l.map Prod.fst ∧ (l.foldl restoreSlot s).places[p] = s.places[p]) ∨
      ∃ v, (p, v) ∈ l ∧ (l.foldl restoreSlot s).places[p] = restoredPlace v := by
  induction l generalizing s with
  | nil => exact .inl ⟨nofun, rfl⟩
  | cons x l ih =>
    rcases ih (restoreSlot s x) with ⟨hp, h⟩ | ⟨v, hv, h⟩
    · rw [(restoreSlot_facts s x).1] at h
      split at h
      next hx => exact .inr ⟨x.2, by simp [← hx], h⟩
      next hx => exact .inl ⟨by simp only [List.map_cons, List.mem_cons, not_or]; exact ⟨fun e => hx e.symm, hp⟩, h⟩
    · exact .inr ⟨v, List.mem_cons_of_mem _ hv, h⟩

/-- After restoring slots one after another, a slot has the record of one of those restored into it, or what it had. -/
theorem restoreFold_slot (l : List (PlaceNo × InstalledSlot)) (s : State) (i : SlotNo) :
    ((∀ x ∈ l, x.2.slot ≠ i) ∧ (l.foldl restoreSlot s).slots[i] = s.slots[i]) ∨
      ∃ x ∈ l, x.2.slot = i ∧ (l.foldl restoreSlot s).slots[i] = some (restoredRecord x.2) := by
  induction l generalizing s with
  | nil => exact .inl ⟨List.forall_mem_nil _, rfl⟩
  | cons x l ih =>
    rcases ih (restoreSlot s x) with ⟨hi, h⟩ | ⟨y, hy, hslot, h⟩
    · rw [(restoreSlot_facts s x).2] at h
      split at h
      next hx => exact .inr ⟨x, List.mem_cons_self, hx, h⟩
      next hx => exact .inl ⟨List.forall_mem_cons.2 ⟨hx, hi⟩, h⟩
    · exact .inr ⟨y, List.mem_cons_of_mem _ hy, hslot, h⟩

/-- The places and slots of the engine with every place empty and every slot VACANT. -/
def cleared (s : State) : State :=
  { s with slots := Vector.replicate 64 none, places := Vector.replicate 64 Place.empty }

theorem cleared_place (s : State) (p : PlaceNo) : (cleared s).places[p] = Place.empty := by simp [cleared]

theorem cleared_slot (s : State) (i : SlotNo) : (cleared s).slots[i] = none := by simp [cleared]

/-- Places and slots after stage 3 when no install image is valid. -/
theorem slotsStage_of_invalid {s : State} (h : s.store.install = none) :
    (slotsStage s).installResult = .invalid ∧ (slotsStage s).slots = (cleared s).slots ∧
      (slotsStage s).places = (cleared s).places := by
  simp only [slotsStage, restoreInstall, h, recordsFromFixed]
  exact ⟨trivial, rfl, rfl⟩

/-- Places and slots after stage 3 when the install image is for another bank map. -/
theorem slotsStage_of_conflict {s : State} {c : InstallImage} (h : s.store.install = some c) (hb : c.bank ≠ s.bank) :
    (slotsStage s).installResult = .conflict ∧ (slotsStage s).slots = (cleared s).slots ∧
      (slotsStage s).places = (cleared s).places := by
  simp only [slotsStage, restoreInstall, h, recordsFromFixed, if_neg hb]
  exact ⟨trivial, rfl, rfl⟩

/-- Places and slots after stage 3 when the install image fits. -/
theorem slotsStage_of_fit {s : State} {c : InstallImage} (h : s.store.install = some c) (hb : c.bank = s.bank) :
    (slotsStage s).installResult = .restored ∧
      (slotsStage s).slots = ((restorePairs s.bank c.records).foldl restoreSlot (cleared s)).slots ∧
      (slotsStage s).places = ((restorePairs s.bank c.records).foldl restoreSlot (cleared s)).places := by
  have pairs : c.records.foldl restoreRecord (cleared s) = (restorePairs s.bank c.records).foldl restoreSlot (cleared s) :=
    restoreRecords_eq c.records (cleared s)
  rw [← pairs]
  simp only [slotsStage, restoreInstall, h, recordsFromFixed, if_pos hb]
  exact ⟨trivial, rfl, rfl⟩

/-- A restored record is the image's, marked restored, with no runs, row or segments (R15). -/
theorem restoredRecord_facts (v : InstalledSlot) :
    (restoredRecord v).restored = true ∧ (restoredRecord v).completedRuns = 0 ∧ (restoredRecord v).gradeRow = none ∧
      (restoredRecord v).tracker = Tracker.initial ∧
      (∀ g d, (restoredRecord v).state = .installed g d → (restoredRecord v).grade = g ∧ d = false) ∧
      ((restoredRecord v).isQuarantined = true → (restoredRecord v).grade = 15) := by
  refine ⟨rfl, rfl, rfl, rfl, fun g d h => ?_, fun h => ?_⟩
  · simp only [restoredRecord, restoredState] at h ⊢
    split at h
    next hv => cases h; exact ⟨by rw [hv]; rfl, rfl⟩
    next hv => exact absurd h (hv g d)
  · simp only [ModuleRecord.isQuarantined, restoredRecord, restoredState, restoredGrade] at h ⊢
    cases hv : v.state <;> simp_all

theorem restoredRecord_isQuarantined (v : InstalledSlot) :
    (restoredRecord v).isQuarantined = true ↔ ∃ reason g, v.state = .quarantined reason g := by
  simp only [ModuleRecord.isQuarantined, restoredRecord, restoredState]
  cases v.state <;> simp

/-- An INSTALLED slot comes back with its installed grade and no drift, a QUARANTINED one as it was (R15). -/
theorem restoredRecord_standing (v : InstalledSlot) :
    (∀ g d, v.state = .installed g d →
      (restoredRecord v).state = .installed g false ∧ (restoredRecord v).grade = g) ∧
    (∀ reason g, v.state = .quarantined reason g →
      (restoredRecord v).state = v.state ∧ (restoredRecord v).grade = 15) := by
  refine ⟨fun g d h => ?_, fun reason g h => ?_⟩ <;>
    simp only [restoredRecord, restoredState, restoredGrade, h, and_self]

/-- An install record holds a slot for a place when both stand at the same index. -/
theorem mem_restorePairs {b : BankMap} {rs : List InstallRecord} {p : PlaceNo} {v : InstalledSlot} :
    (p, v) ∈ restorePairs b rs ↔
      ∃ r ∈ rs, ∃ k : Nat, (b[r.string].placesOf r.position)[k]? = some p ∧ r.slots[k]? = some v := by
  rw [restorePairs, List.mem_flatMap]
  refine exists_congr fun r => and_congr_right fun _ => ?_
  rw [List.mem_iff_getElem?]
  simp only [List.getElem?_zip_eq_some]

section
variable {u : State}

/-- Every slot that stage 3 leaves occupied is one of the install image's. -/
theorem slotsStage_slot {i : SlotNo} {m : ModuleRecord} (h : (slotsStage u).slots[i] = some m) :
    ∃ c r v, u.store.install = some c ∧ r ∈ c.records ∧ v ∈ r.slots ∧ v.slot = i ∧ m = restoredRecord v := by
  have vacant : (slotsStage u).slots = (cleared u).slots → False := fun e => by
    rw [e, cleared_slot] at h; cases h
  cases hc : u.store.install with
  | none => exact (vacant (slotsStage_of_invalid hc).2.1).elim
  | some c =>
    by_cases hb : c.bank = u.bank
    · rw [(slotsStage_of_fit hc hb).2.1] at h
      rcases restoreFold_slot (restorePairs u.bank c.records) (cleared u) i with ⟨-, hi⟩ | ⟨⟨p, v⟩, hx, hslot, hi⟩
      · rw [hi, cleared_slot] at h; cases h
      · obtain ⟨r, hr, k, -, hv⟩ := mem_restorePairs.1 hx
        rw [hi] at h
        exact ⟨c, r, v, rfl, hr, List.mem_of_getElem? hv, hslot, (Option.some.inj h).symm⟩
    · exact (vacant (slotsStage_of_conflict hc hb).2.1).elim

/-- A place that stage 3 leaves is empty, or fixed with a slot. -/
theorem slotsStage_place (p : PlaceNo) :
    (slotsStage u).places[p] = Place.empty ∨
      ∃ i, (slotsStage u).places[p].slot = some i ∧ (slotsStage u).places[p].fixed = true := by
  have empty : (slotsStage u).places = (cleared u).places → (slotsStage u).places[p] = Place.empty := fun e => by
    rw [e, cleared_place]
  cases hc : u.store.install with
  | none => exact .inl (empty (slotsStage_of_invalid hc).2.2)
  | some c =>
    by_cases hb : c.bank = u.bank
    · rw [(slotsStage_of_fit hc hb).2.2]
      rcases restoreFold_place (restorePairs u.bank c.records) (cleared u) p with ⟨-, h⟩ | ⟨v, -, h⟩ <;> rw [h]
      · exact .inl (cleared_place u p)
      · exact .inr ⟨v.slot, rfl, rfl⟩
    · exact .inl (empty (slotsStage_of_conflict hc hb).2.2)

/-- A slot of a fitting image that no other record names is restored in its place, which no other names. -/
theorem slotsStage_restored {c : InstallImage} (hc : u.store.install = some c) (hb : c.bank = u.bank) {p : PlaceNo}
    {v : InstalledSlot} (h : (p, v) ∈ restorePairs u.bank c.records)
    (once : ∀ p' v', (p', v') ∈ restorePairs u.bank c.records → p' = p ∨ v'.slot = v.slot → v' = v) :
    (slotsStage u).places[p] = restoredPlace v ∧ (slotsStage u).slots[v.slot] = some (restoredRecord v) := by
  obtain ⟨-, slots, places⟩ := slotsStage_of_fit hc hb
  rw [slots, places]
  constructor
  · rcases restoreFold_place (restorePairs u.bank c.records) (cleared u) p with ⟨hp, -⟩ | ⟨v', hv', hp⟩
    · exact absurd (List.mem_map_of_mem (f := Prod.fst) h) hp
    · rw [hp, once p v' hv' (.inl rfl)]
  · rcases restoreFold_slot (restorePairs u.bank c.records) (cleared u) v.slot with ⟨hi, -⟩ | ⟨x, hx, hslot, hi⟩
    · exact absurd rfl (hi _ h)
    · rw [hi, once x.1 x.2 hx (.inr hslot)]

/-- The string records after stage 3 follow the fixed positions (R105). -/
theorem slotsStage_record (i : StringNo) :
    (slotsStage u).records[i] = if whollyFixed (slotsStage u) i then
      { state := .planned, reference := fixedReference (slotsStage u) i, review := 0 } else StringRecord.initial := by
  have same : ∀ w : State, (recordsFromFixed w).records[i] = if whollyFixed (recordsFromFixed w) i then
      { state := .planned, reference := fixedReference (recordsFromFixed w) i, review := 0 }
      else StringRecord.initial := fun w => by
    simp only [recordsFromFixed, Fin.getElem_fin, Vector.getElem_ofFn]
    rfl
  exact same _

end

/-- Settles O14: the image is judged against the bank map in force, and its slots are restored one after another. -/
theorem startUpRestores : Obligations.StartUpRestores := by
  intro s straps e he hn
  obtain ⟨t, dnTx, repeats, run, -, ht⟩ := exec_startUp he hn straps e
  let u := loadingStage straps (clearingStage e s)
  have store : u.store = s.store := by simp only [u]; rw [loadingStage_eq]; rfl
  have bank : (slotsStage u).bank = u.bank := by rw [slotsStage_eq]
  have empty : (slotsStage u).slots = (cleared u).slots → (slotsStage u).places = (cleared u).places →
      (∀ i : SlotNo, (slotsStage u).slots[i] = none) ∧ ∀ p : PlaceNo, (slotsStage u).places[p] = Place.empty :=
    fun hs hp => ⟨fun i => by rw [hs, cleared_slot], fun p => by rw [hp, cleared_place]⟩
  subst ht
  refine ⟨_, run, fun hc => ?_, fun c hc hb => ?_, fun c hc hb => ?_, ?_, fun i m hm => ?_, slotsStage_place, ?_, ?_, ?_⟩
  · exact (slotsStage_of_invalid (store ▸ hc)).1
  · exact (slotsStage_of_conflict (store ▸ hc) (bank ▸ hb)).1
  · exact (slotsStage_of_fit (store ▸ hc) (bank ▸ hb)).1
  · rintro (hc | ⟨c, hc, hb⟩)
    · obtain ⟨-, slots, places⟩ := slotsStage_of_invalid (s := u) (store ▸ hc)
      exact empty slots places
    · obtain ⟨-, slots, places⟩ := slotsStage_of_conflict (s := u) (store ▸ hc) (bank ▸ hb)
      exact empty slots places
  · obtain ⟨c, r, v, hc, hr, hv, hslot, rfl⟩ := slotsStage_slot hm
    obtain ⟨restored, runs, row, tracker, installed, quarantined⟩ := restoredRecord_facts v
    exact ⟨restored, runs, row, tracker, installed, quarantined, c, r, v, store ▸ hc, hr, hv, hslot, rfl, rfl, rfl, rfl, rfl⟩
  · intro holds c hc hb r hr p v hk once
    have fits : c.bank = u.bank := bank ▸ hb
    have pair : ∀ {p v}, (p, v) ∈ restorePairs u.bank c.records ↔ ∃ r ∈ c.records, holds r p v := mem_restorePairs.trans
      (by rw [← bank]; rfl)
    obtain ⟨place, slot⟩ := slotsStage_restored (store ▸ hc) fits (pair.2 ⟨r, hr, hk⟩) fun p' v' h' hn =>
      let ⟨r', hr', hk'⟩ := pair.1 h'
      once r' hr' p' v' hk' hn
    refine ⟨congrArg Place.slot place, congrArg Place.fixed place, ?_, restoredRecord v, slot, rfl, rfl, rfl, rfl, rfl, rfl,
      restoredRecord_standing v⟩
    exact (Bool.eq_iff_iff.1 (congrArg Place.alarm place)).trans (restoredRecord_isQuarantined v)
  · intro i hi
    exact (slotsStage_record i).trans (if_pos hi)
  · intro i hi
    exact (slotsStage_record i).trans (if_neg (by rw [show whollyFixed (slotsStage u) i = false from hi]; nofun))

end Sys2Proof.Machine
end

section
/-! SUPPORT. What every directive row does by the frame it takes, and the events that leave the state; the proofs of O2,
O27 and O29. -/

namespace Sys2Proof.Machine

/-! ## The rows of directives -/

/-- A row that is no WRITE may be carried out wherever the pointer stands. -/
theorem pointerFits_of_none {c : Instr} (h : c.writeTables = none) (s : State) : pointerFits c s := fun ts hts => by
  rw [h] at hts; cases hts

/-- The WRITE rows of one table each. -/
theorem pointerFits_singleton {c : Instr} {table : Nat} (h : c.writeTables = some [table]) (s : State) :
    pointerFits c s ↔ s.pointer.table = table := by
  simp [pointerFits, h]

/-- The WRITE row of the read-only tables. -/
theorem pointerFits_write (tag : Byte) (params : List Byte) (s : State) :
    pointerFits (.write tag params) s ↔ 5 ≤ s.pointer.table ∧ s.pointer.table ≤ 8 := by
  simp only [pointerFits, Instr.writeTables, Option.some.injEq, forall_eq', List.mem_cons, List.not_mem_nil, or_false]
  omega

/-- The row of a WRITE is that of one writable table, or that of the read-only tables (R155). -/
theorem exec_write {c : Instr} {tag : Byte} {params : List Byte} (h : c.directive = some (tag, 20, params)) (s : State) :
    c = .write tag params ∨ ∃ table rule, (table < 5 ∨ 8 < table) ∧ c.writeTables = some [table] ∧
      exec c s = .next (runWrite table tag params rule s) := by
  cases c <;> cases h
  case write => exact .inl rfl
  case slotMapWrite => exact .inr ⟨0, _, by decide, rfl, rfl⟩
  case profileWrite => exact .inr ⟨1, _, by decide, rfl, rfl⟩
  case curveWrite => exact .inr ⟨2, _, by decide, rfl, rfl⟩
  case gradeRowWrite => exact .inr ⟨3, _, by decide, rfl, rfl⟩
  case bankMapWrite => exact .inr ⟨4, _, by decide, rfl, rfl⟩
  case settingsWrite => exact .inr ⟨9, _, by decide, rfl, rfl⟩

section
variable {c : Instr} {tag : Byte} {code : Nat} {params : List Byte} {s t : State}

/-- A WRITE to tables 5 to 8 runs the refusal. -/
theorem exec_write_readOnly (h : 5 ≤ s.pointer.table ∧ s.pointer.table ≤ 8) :
    exec (.write tag params) s = .next (runDirective tag 20 params false (refuse .readOnly) s) :=
  congrArg Host.Outcome.next (if_pos h)

/-- A WRITE whose row meets the pointer runs a rule. -/
theorem exec_write_of_fits (h : c.directive = some (tag, 20, params)) (hp : pointerFits c s) :
    (5 ≤ s.pointer.table ∧ s.pointer.table ≤ 8 ∧
      exec c s = .next (runDirective tag 20 params false (refuse .readOnly) s)) ∨
    (s.pointer.table < 5 ∨ 8 < s.pointer.table) ∧
      ∃ rule, exec c s = .next (runDirective tag 20 params false (writeEntry params rule) s) := by
  rcases exec_write h s with rfl | ⟨table, rule, htable, hc, run⟩
  · have inside := (pointerFits_write tag params s).1 hp
    exact .inl ⟨inside.1, inside.2, exec_write_readOnly inside⟩
  · have at_ := (pointerFits_singleton hc s).1 hp
    exact .inr ⟨at_ ▸ htable, rule, run.trans (congrArg Host.Outcome.next (if_pos at_))⟩

/-- A WRITE row that does not meet the pointer leaves the state (log entry 6). -/
theorem exec_of_not_fits (h : ¬ pointerFits c s) : exec c s = .next s := by
  cases hc : c.directive with
  | none => exact absurd (pointerFits_of_none (by cases c <;> first | rfl | cases hc) s) h
  | some d =>
    obtain ⟨tag, code, params⟩ := d
    by_cases hcode : code = 20
    · subst hcode
      rcases exec_write hc s with rfl | ⟨table, rule, -, hw, run⟩
      · exact congrArg Host.Outcome.next (if_neg (mt (pointerFits_write tag params s).2 h))
      · exact run.trans (congrArg Host.Outcome.next (if_neg (mt (pointerFits_singleton hw s).2 h)))
    · refine absurd (pointerFits_of_none ?_ s) h
      cases c <;> first | rfl | (cases hc; exact absurd rfl hcode)

/-- A row that is no WRITE runs its own rule. -/
theorem exec_directive_other (h : c.directive = some (tag, code, params)) (hcode : code ≠ 20) (s : State) :
    ∃ b rule, exec c s = .next (runDirective tag code params b rule s) ∧
      (code ≠ 1 → code ≠ 2 → code ≠ 7 → b = false) := by
  cases c <;> cases h
  case identify => exact ⟨_, _, rfl, fun h => absurd rfl h⟩
  case status => exact ⟨_, _, rfl, fun _ h => absurd rfl h⟩
  case wake => exact ⟨_, _, rfl, fun _ _ h => absurd rfl h⟩
  case write | slotMapWrite | profileWrite | curveWrite | gradeRowWrite | bankMapWrite | settingsWrite =>
    exact absurd rfl hcode
  all_goals exact ⟨_, _, rfl, fun _ _ _ => rfl⟩

/-- A row of the 33 directives runs a rule of its own, which BYPASS reaches for IDENTIFY, STATUS and WAKE alone (R152). -/
theorem exec_directive (h : c.directive = some (tag, code, params)) (hp : pointerFits c s) :
    ∃ b rule, exec c s = .next (runDirective tag code params b rule s) ∧
      (code ≠ 1 → code ≠ 2 → code ≠ 7 → b = false) := by
  by_cases hcode : code = 20
  · subst hcode
    rcases exec_write_of_fits h hp with ⟨-, -, run⟩ | ⟨-, rule, run⟩
    · exact ⟨_, _, run, fun _ _ _ => rfl⟩
    · exact ⟨_, _, run, fun _ _ _ => rfl⟩
  · exact exec_directive_other h hcode s

/-- A frame that cannot be taken leaves the state (log entry 4). -/
theorem exec_of_untaken (h : c.directive = some (tag, code, params))
    (hn : ∀ t, ¬ Taken { tag := tag, payload := BitVec.ofNat 8 code :: params } s t) : exec c s = .next s := by
  by_cases hp : pointerFits c s
  · obtain ⟨b, rule, run, -⟩ := exec_directive h hp
    rw [run, runDirective_untaken tag code params b rule s hn]
  · exact exec_of_not_fits hp

/-! ## The checks (R152) -/

/-- The 33 codes are those whose parameters have a length. -/
theorem directiveCodes_contains (n : Nat) : directiveCodes.contains n = (parameterLength n).isSome := by
  unfold parameterLength
  split <;> simp_all [directiveCodes]

theorem namesNoDirective_cons (code : Byte) (rest : List Byte) :
    namesNoDirective (code :: rest) = !directiveCodes.contains code.toNat := by
  rw [directiveCodes_contains]
  cases h : parameterLength code.toNat <;> simp [namesNoDirective, h]

/-- In BYPASS a directive that is not taken there is refused (R152, check 3). -/
theorem checkDirective_of_bypass (rule : State → Reply State) (h : t.engine = .bypass) :
    checkDirective code params false rule t = refuse .bypass t := if_pos ⟨by simp [h], rfl⟩

/-- Parameters of another length are refused (R152, check 4). -/
theorem checkDirective_of_length {n : Nat} (b : Bool) (rule : State → Reply State) (h : t.engine = .active)
    (hn : parameterLength code = some (some n)) (hl : params.length ≠ n) :
    checkDirective code params b rule t = refuse .malformed t := by
  simp [checkDirective, h, hn, hl]

/-- Tables 5 to 8 have no write form. -/
theorem writeFormLength_readOnly {table : Nat} (h : 5 ≤ table ∧ table ≤ 8) : writeFormLength table = none := by
  unfold writeFormLength
  split <;> first | rfl | omega

/-- A directive that names none is answered, once it is taken. -/
theorem exec_unknown {payload : List Byte} (hp : namesNoDirective payload = true)
    (h : Taken { tag := tag, payload := payload } s t) :
    exec (.unknown tag payload) s = .next (startPorts (answerUnknown tag payload t)) := by
  obtain ⟨u, hu, rfl⟩ := (taken_iff _ _ _).1 h
  refine congrArg Host.Outcome.next ((if_pos hp).trans ?_)
  simp only [hu]

end

/-- Settles O27: the checks come before the rule of the directive. -/
theorem checksAnswered : Obligations.ChecksAnswered := by
  refine ⟨fun tag s t => ⟨fun h => exec_unknown rfl h, fun code params hc h => ?_⟩, fun c tag code params s t hc h1 h2 h7 hp he h => ?_⟩
  · rw [exec_unknown (by rw [namesNoDirective_cons, hc]; rfl) h]
    simp only [answered, BitVec.ofNat_toNat, BitVec.setWidth_eq]
    rfl
  · obtain ⟨b, rule, run, hb⟩ := exec_directive hc hp
    have bypass : t.engine = .bypass := by rw [h.fields]; exact he
    rw [run, hb h1 h2 h7, runDirective_taken false rule h, checkDirective_of_bypass rule bypass]
    rfl

/-- Settles O29: the length is tested before the rule, and the table before the length of a WRITE. -/
theorem wrongLengthAnswered : Obligations.WrongLengthAnswered := by
  intro c tag code params s t hc hp h
  refine ⟨fun n hn hl => ?_, fun hcode hmin hmax => ?_, fun n hcode hn hl => ?_⟩
  · obtain ⟨b, rule, run, -⟩ := exec_directive hc hp
    rw [run, runDirective_taken b rule h.1, checkDirective_of_length b rule h.active hn hl]
    rfl
  · subst hcode
    rcases exec_write_of_fits hc hp with ⟨-, -, run⟩ | ⟨hout, -⟩
    · rw [run, runDirective_heard false _ h (by simp [parameterLength])]
      rfl
    · omega
  · subst hcode
    have pointer : t.pointer = s.pointer := by rw [h.1.fields]
    rcases exec_write_of_fits hc hp with ⟨hmin, hmax, -⟩ | ⟨-, rule, run⟩
    · rw [writeFormLength_readOnly ⟨hmin, hmax⟩] at hn
      cases hn
    · have short : writeEntry params rule t = refuse .malformed t := if_neg (by rw [pointer, hn]; simpa using hl)
      rw [run, runDirective_heard false _ h (by simp [parameterLength]), short]
      rfl

/-! ## Events out of place (log entries 4, 6, 7 and 11) -/

section
variable {s : State}

/-- A run that is not RUNNING, or none, takes no step (R115). -/
theorem exec_run_of_held (h : ∀ r, s.run = some r → r.mode = .held) :
    exec .opening s = .next s ∧ exec .filling s = .next s ∧ exec .completion s = .next s := by
  change execOpening s = _ ∧ execFilling s = _ ∧ execCompletion s = _
  unfold execOpening execFilling execCompletion
  cases hr : s.run with
  | none => exact ⟨rfl, rfl, rfl⟩
  | some r => simp only [h r hr, and_self]

/-- With a current string a run neither opens nor completes (R120, R126). -/
theorem exec_run_of_current {r : PlanningRun} {c : CurrentString} (hr : s.run = some r) (hc : r.current = some c) :
    exec .opening s = .next s ∧ exec .completion s = .next s := by
  change execOpening s = _ ∧ execCompletion s = _
  unfold execOpening execCompletion
  simp only [hr, hc]
  cases r.mode <;> exact ⟨rfl, rfl⟩

theorem exec_filling_of_idle {r : PlanningRun} (hr : s.run = some r) (hc : r.current = none) :
    exec .filling s = .next s := by
  change execFilling s = _
  simp only [execFilling, hr, hc]
  cases r.mode <;> rfl

theorem exec_filling_of_filled {r : PlanningRun} {c : CurrentString} (hr : s.run = some r) (hc : r.current = some c)
    (hf : c.toFill = []) : exec .filling s = .next s := by
  change execFilling s = _
  have same : { s with run := some (fillString s.bank r c) } = s := by simp only [fillString, hf, ← hr]
  simp only [execFilling, hr, hc]
  cases r.mode
  · exact congrArg Host.Outcome.next same
  · rfl

/-- No enabled string remains when every one is processed (R120). -/
theorem nextString_eq_none {b : BankMap} {last : Option StringNo}
    (h : ∀ j : StringNo, b[j].enabled = true → ∃ l, last = some l ∧ j ≤ l) : nextString b last = none := by
  by_contra hn
  obtain ⟨i, hi⟩ := Option.ne_none_iff_exists'.1 hn
  obtain ⟨he, habove, -⟩ := nextString_some hi
  obtain ⟨l, hl, hle⟩ := h i he
  exact absurd (habove l hl) (not_lt.2 hle)

/-- An enabled string above the last processed one remains (R126). -/
theorem nextString_ne_none {b : BankMap} {last : Option StringNo} {j : StringNo} (he : b[j].enabled = true)
    (h : ∀ l, last = some l → l < j) : nextString b last ≠ none := fun hn => by
  obtain ⟨l, hl, hle⟩ := nextString_none hn j he
  exact absurd (h l hl) (not_lt.2 hle)

theorem exec_opening_of_done {r : PlanningRun} (hr : s.run = some r) (hn : nextString s.bank r.lastProcessed = none) :
    exec .opening s = .next s := by
  change execOpening s = _
  simp only [execOpening, hr, hn]
  cases r.mode <;> cases r.current <;> rfl

theorem exec_completion_of_remaining {r : PlanningRun} (hr : s.run = some r)
    (hn : nextString s.bank r.lastProcessed ≠ none) : exec .completion s = .next s := by
  obtain ⟨i, hi⟩ := Option.ne_none_iff_exists'.1 hn
  change execCompletion s = _
  simp only [execCompletion, hr, hi]
  cases r.mode <;> cases r.current <;> rfl

theorem exec_saveCompletion_of_none (h : ∀ c, s.storeWork ≠ some (.save c)) : exec .saveCompletion s = .next s := by
  change execSaveCompletion s = _
  unfold execSaveCompletion
  split
  next c hc => exact absurd hc (h c)
  next => rfl

theorem exec_certifyCompletion_of_none (h : ∀ g, s.storeWork ≠ some (.certify g)) :
    exec .certifyCompletion s = .next s := by
  change execCertifyCompletion s = _
  unfold execCertifyCompletion
  split
  next g hg => exact absurd hg (h g)
  next => rfl

theorem exec_unknown_of_untaken {tag : Byte} {payload : List Byte}
    (h : ∀ t, ¬ Taken { tag := tag, payload := payload } s t) : exec (.unknown tag payload) s = .next s := by
  refine congrArg Host.Outcome.next ?_
  split <;> [split; skip]
  next => rfl
  next u hu => exact absurd ((taken_iff _ _ _).2 ⟨u, hu, rfl⟩) (h _)
  next => rfl

/-- A node outside 1 to 16 never falls silent (R18). -/
theorem silenceDue_eq_false {node : Nat} (h : node < 1 ∨ 16 < node) : silenceDue s node = false := by
  unfold silenceDue
  rcases h with h | h
  · rw [decide_eq_false (by omega : ¬ 1 ≤ node)]
    simp
  · have outside : s.nodes[node - 1]? = none := Vector.getElem?_eq_none (by omega)
    simp [outside]

end

/-- Settles O2: every row tests whether its event can happen before it does anything. -/
theorem outOfPlaceLeavesState : Obligations.OutOfPlaceLeavesState := by
  intro s
  refine ⟨fun h => ?_, fun h straps e => ?_, fun h => ?_, fun h => ?_, exec_run_of_held,
    fun r hr _ => ⟨fun c hc => exec_run_of_current hr hc, fun c hc hf => exec_filling_of_filled hr hc hf,
      fun hc => exec_filling_of_idle hr hc, fun _ h => exec_opening_of_done hr (nextString_eq_none h),
      fun _ j he h => exec_completion_of_remaining hr (nextString_ne_none he h)⟩,
    exec_saveCompletion_of_none, exec_certifyCompletion_of_none,
    fun c tag code params hc hn => exec_of_untaken hc hn, fun c tables hc ht => exec_of_not_fits fun hp => ht (hp _ hc),
    fun tag payload h => exec_unknown_of_untaken h, fun tag code rest h => ?_, fun pol start stop idle h => ?_,
    fun pol start stop idle h => ?_, fun node e h => ?_, fun h e f pol start stop idle port => ?_⟩
  · simp only [step, h]
  · exact congrArg Host.Outcome.next (if_neg fun hc => by simp [hc] at h)
  · change execEndOfTransmission s = _
    simp only [execEndOfTransmission, h]
  · change execDownPortTransmissionEnd s = _
    simp only [execDownPortTransmissionEnd, h]
  · exact congrArg Host.Outcome.next (if_neg (by rw [namesNoDirective_cons, h]; nofun))
  · exact congrArg Host.Outcome.next (if_neg fun hc => Nat.not_le.2 h hc.2)
  · refine congrArg Host.Outcome.next (if_neg fun ⟨_, hu, hle, hlt⟩ => ?_)
    rw [hu] at h
    simp only [Bool.false_eq_true, or_false] at h
    exact h.elim (Nat.not_le.2 hlt) (Nat.not_lt.2 hle)
  · refine congrArg Host.Outcome.next (if_neg ?_)
    rw [silenceDue_eq_false h]
    nofun
  · have low : ¬ s.resetN = true := by simp [h]
    exact ⟨congrArg Host.Outcome.next (if_neg low), congrArg Host.Outcome.next (if_neg low),
      congrArg Host.Outcome.next (if_neg fun hc => low hc.1), congrArg Host.Outcome.next (if_neg fun hc => low hc.1),
      congrArg Host.Outcome.next (if_neg low)⟩

end Sys2Proof.Machine
end

section
/-! SUPPORT. The state right after the power-on trigger, and every invariant there; the proof of O3. -/

namespace Sys2Proof.Machine

theorem reset_queuesBounded : QueuesBounded State.reset where
  up := by decide
  down := by decide
  directives := by decide
  reports := by decide
  keys := .nil
  arbiter := by decide
  pattern := by decide
  counters := ⟨Nat.zero_le _, Nat.zero_le _, Nat.zero_le _, Nat.zero_le _, Nat.zero_le _, Nat.zero_le _⟩
  nodes k := by simp [State.reset, NodeEntry.initial]
  address := by decide

theorem reset_slotMapsInjective : SlotMapsInjective State.reset := ⟨mapInjective_replicate, nofun, nofun⟩

theorem reset_certifiedSound : CertifiedSound State.reset :=
  .of_idle rfl nofun nofun fun g h => by simp [State.reset, ImageStore.blank] at h

theorem reset_figuresInRange : FiguresInRange State.reset :=
  ⟨fun i m h => by simp [State.reset] at h, nofun, nofun⟩

theorem reset_placesSound : PlacesSound State.reset := by
  have vacant : PlacesAll State.reset :=
    PlacesBut.vacant (fun p => by simp [State.reset]) (fun i => by simp [State.reset])
      fun i h => by simp [State.reset, StringRecord.initial] at h
  exact (placesSound_iff _).2 ⟨⟨bankSound_default, nofun, nofun, nofun, nofun⟩, .noRun vacant rfl⟩

/-- Settles O3: the fields as they are set, and the invariants on them. -/
theorem resetIsStarting : Obligations.ResetIsStarting := by
  refine ⟨⟨rfl, rfl, rfl, rfl, rfl⟩, ⟨rfl, rfl, rfl, rfl, rfl, rfl, rfl, rfl, rfl, rfl, rfl⟩,
    ⟨rfl, rfl, rfl, rfl, rfl, rfl, rfl, rfl, rfl, rfl, rfl, rfl⟩, ⟨rfl, rfl, rfl, rfl, rfl, rfl, rfl, rfl, rfl, rfl⟩,
    ⟨fun k => ?_, fun k => ?_, fun k => ?_, fun k => ?_, fun k => ?_, fun i => ?_, fun i => ?_, fun p => ?_, fun i => ?_⟩,
    ⟨rfl, rfl, rfl, rfl, rfl, rfl, fun g => ⟨?_, ?_⟩⟩, reset_queuesBounded, fun h => absurd rfl h,
    reset_slotMapsInjective, reset_certifiedSound, reset_figuresInRange, reset_placesSound⟩
  all_goals exact Vector.getElem_replicate _

end Sys2Proof.Machine
end

section
/-! SUPPORT. Leaving a place, the review test and the disturbing of a run, case by case. -/

namespace Sys2Proof.Machine

/-! ## Leaving a place (R10, R112) -/

theorem getLsbD_ofNat_two_pow (pos : Nat) (k : Fin 16) :
    (BitVec.ofNat 16 (2 ^ pos)).getLsbD k = decide (k.val = pos) := by
  have hk := k.isLt
  rw [BitVec.getLsbD_ofNat, Nat.testBit_two_pow]
  simp [hk, eq_comm]

theorem clearReview_bit (pos : Nat) (r : StringRecord) (k : Fin 16) :
    (clearReview pos r).review.getLsbD k = (r.review.getLsbD k && decide (k.val ≠ pos)) := by
  rw [clearReview, BitVec.getLsbD_and, BitVec.getLsbD_not, getLsbD_ofNat_two_pow, decide_eq_true k.isLt, Bool.true_and,
    decide_not]

theorem noteLeave_fields (r : StringRecord) :
    (noteLeave r).reference = r.reference ∧ (noteLeave r).review = r.review ∧
      (noteLeave r).state = if r.state = .planned then .incomplete else r.state := by
  unfold noteLeave
  split <;> simp

theorem emptyPosition_left (string : StringNo) (pos : Nat) (s : State) :
    PositionLeft string pos s (emptyPosition string pos s) := by
  obtain ⟨href, hreview, hstate⟩ := noteLeave_fields (clearReview pos s.records[string])
  have hrecord : (emptyPosition string pos s).records[string] = noteLeave (clearReview pos s.records[string]) := by
    rw [emptyPosition_record, if_pos rfl]
  refine ⟨fun p hp => ?_, fun p hp => ?_, fun j hj => ?_, ?_, ?_, fun k => ?_⟩
  · rw [emptyPosition_place, if_pos hp]
  · rw [emptyPosition_place, if_neg hp]
  · rw [emptyPosition_record, if_neg (Ne.symm hj)]
  · rw [hrecord, href]; rfl
  · rw [hrecord, hstate]; rfl
  · rw [hrecord, hreview, clearReview_bit]

theorem PositionLeft.congr {string : StringNo} {pos : Nat} {s s' u u' : State} (h : PositionLeft string pos s u)
    (hb : s'.bank = s.bank) (hp : s'.places = s.places) (hr : s'.records = s.records)
    (kp : u'.places = u.places) (kr : u'.records = u.records) : PositionLeft string pos s' u' := by
  simpa only [PositionLeft, hb, hp, hr, kp, kr] using h

theorem leavePlace_of_none {i : SlotNo} {s : State} (h : placeOf s i = none) : leavePlace i s = s := by
  simp only [leavePlace, h]

theorem leavePlace_of_fixed {i : SlotNo} {s : State} {q : PlaceNo} (h : placeOf s i = some q)
    (hf : s.places[q].fixed = true) : leavePlace i s = s := by
  simp only [leavePlace, h, hf, if_true]

theorem leavePlace_of_free {i : SlotNo} {s : State} {q : PlaceNo} (h : placeOf s i = some q)
    (hf : s.places[q].fixed = false) (ho : ownerOf s.bank q = none) :
    leavePlace i s = updatePlace q (fun p => { p with slot := none }) s := by
  simp only [leavePlace, h, hf, ho, Bool.false_eq_true, if_false]

theorem leavePlace_of_owned {i : SlotNo} {s : State} {q : PlaceNo} {string : StringNo} {pos : Nat}
    (h : placeOf s i = some q) (hf : s.places[q].fixed = false) (ho : ownerOf s.bank q = some (string, pos)) :
    leavePlace i s = emptyPosition string pos s := by
  simp only [leavePlace, h, hf, ho, Bool.false_eq_true, if_false]

/-- The place a slot leaves is empty, owned or free. -/
theorem leavePlace_emptied_place {i : SlotNo} {s : State} {q : PlaceNo} (h : placeOf s i = some q)
    (hf : s.places[q].fixed = false) : (leavePlace i s).places[q].slot = none := by
  cases ho : ownerOf s.bank q with
  | none => rw [leavePlace_of_free h hf ho, updatePlace_place, if_pos rfl]
  | some o =>
    obtain ⟨string, pos⟩ := o
    rw [leavePlace_of_owned h hf ho, emptyPosition_place, if_pos (ownerOf_owns ho).2.2]

theorem quarantinePlace_of_none {i : SlotNo} {s : State} (h : placeOf s i = none) : quarantinePlace i s = s := by
  simp only [quarantinePlace, h]

theorem quarantinePlace_of_fixed {i : SlotNo} {s : State} {q : PlaceNo} (h : placeOf s i = some q)
    (hf : s.places[q].fixed = true) :
    quarantinePlace i s = updatePlace q (fun p => { p with alarm := true }) s := by
  simp only [quarantinePlace, h, hf, if_true]

theorem quarantinePlace_of_unfixed {i : SlotNo} {s : State} {q : PlaceNo} (h : placeOf s i = some q)
    (hf : s.places[q].fixed = false) : quarantinePlace i s = leavePlace i s := by
  simp only [quarantinePlace, h, hf, Bool.false_eq_true, if_false]

/-! ## The review test (R111) -/

theorem distance_eq_natAbs (a b : Nat) : distance a b = ((a : Int) - b).natAbs := by
  unfold distance
  split <;> omega

theorem withinTolerance_iff (key reference tolerance : Nat) :
    withinTolerance key reference tolerance = true ↔
      ((key : Int) - reference).natAbs * 1000 ≤ tolerance * reference := by
  rw [withinTolerance, decide_eq_true_iff, distance_eq_natAbs]

theorem reviewFails_iff (s : State) (i : StringNo) (pos : Nat) :
    reviewFails s i pos = true ↔ ∃ ref, s.records[i].reference = some ref ∧
      ∀ key, positionKey s i pos = some key → s.bank[i].capTolerance * ref < ((key : Int) - ref).natAbs * 1000 := by
  unfold reviewFails
  cases s.records[i].reference with
  | none => simp
  | some ref =>
    cases positionKey s i pos with
    | none => simp
    | some key =>
      have hw := withinTolerance_iff key ref s.bank[i].capTolerance
      rw [Bool.not_eq_true', ← Bool.not_eq_true, hw, Nat.not_le]
      simp

/-- A slot stands in a non-fixed position of a PLANNED string, which the review test looks at (R111). -/
def StandsPlanned (i : SlotNo) (s : State) (string : StringNo) (pos : Nat) : Prop :=
  ∃ q, placeOf s i = some q ∧ s.places[q].fixed = false ∧ ownerOf s.bank q = some (string, pos) ∧
    s.records[string].state = .planned

theorem reviewTest_of_fails {i : SlotNo} {s : State} {string : StringNo} {pos : Nat}
    (h : StandsPlanned i s string pos) (hf : reviewFails s string pos = true) :
    reviewTest i s = updateRecord string (setReview pos) s := by
  obtain ⟨q, hq, hfix, ho, hp⟩ := h
  simp only [reviewTest, hq, hfix, ho, hp, hf, Bool.false_eq_true, if_false, and_self, if_true]

theorem reviewTest_of_holds {i : SlotNo} {s : State}
    (h : ∀ string pos, StandsPlanned i s string pos → ¬ reviewFails s string pos = true) : reviewTest i s = s := by
  unfold reviewTest
  split <;> [rfl; split]
  · rfl
  · next q hq hfix =>
    split <;> [rfl; split]
    · next string pos ho hr =>
      exact absurd hr.2 (h string pos ⟨q, hq, by simpa using hfix, ho, hr.1⟩)
    · rfl

/-! ## Disturbing a run (R129) -/

theorem disturbFor_eq (i : SlotNo) (s : State) : disturbFor i s = { s with
    run := s.run.map fun r => { r with disturbed := r.disturbed || hasUnstruckEntry s i } } := by
  have h : disturbFor i s = { s with run := (disturbFor i s).run } := disturbFor_work i s
  rw [h, disturbFor_run]

theorem differsFromEntry_iff {s : State} {r : PlanningRun} (hr : s.run = some r) (i : SlotNo) :
    differsFromEntry s i = true ↔ ∃ m c, s.slots[i] = some m ∧ r.entryOf i = some c ∧ c.struck = false ∧
      (m.figures.cap.map (·.value) ≠ some c.cap ∨ m.figures.rdc.map (·.value) ≠ c.rdc) := by
  cases hm : s.slots[i] with
  | none => simp [differsFromEntry, hr, hm]
  | some m => cases hc : r.entryOf i <;> simp [differsFromEntry, hr, hm, hc]

theorem disturbForFigures_of_differs {i : SlotNo} {s : State} {r : PlanningRun} (hr : s.run = some r)
    (h : differsFromEntry s i = true) :
    disturbForFigures i s = { s with run := some { r with disturbed := true } } := by
  simp only [disturbForFigures, h, if_true, disturb, hr, Option.map_some]

theorem disturbForFigures_of_equal {i : SlotNo} {s : State} (h : ¬ differsFromEntry s i = true) :
    disturbForFigures i s = s := by
  simp only [disturbForFigures, h]
  rfl

end Sys2Proof.Machine
end

section
/-! SUPPORT. The intake unit: the observation of a sample frame, acceptance, hard limits and node silence; the proofs of
O15, O16, O17 and O19. -/

namespace Sys2Proof.Machine

/-! ## The node register -/

theorem getElem?_node (s : State) (n : Fin 16) : s.nodes[n.val + 1 - 1]? = some s.nodes[n] := by simp

theorem updateNode_of_mem (n : Fin 16) (f : NodeEntry → NodeEntry) (s : State) :
    updateNode (n.val + 1) f s = { s with nodes := s.nodes.set n (f s.nodes[n]) } := by
  rw [updateNode, getElem?_node]
  simp only [Nat.add_sub_cancel, setIfInBounds_eq_set]

theorem payloadMalformed_iff (payload : List Byte) : payloadMalformed payload = true ↔
    payload.length < 3 ∨ byteAt payload 2 < 1 ∨ 8 < byteAt payload 2 ∨
      payload.length ≠ 3 + 10 * byteAt payload 2 := by
  simp only [payloadMalformed, Bool.or_eq_true, decide_eq_true_iff, bne_iff_ne, or_assoc]

theorem slotMapIndex_succ (n : Fin 16) (channel : Nat) : slotMapIndex (n.val + 1) channel = n.val * 8 + channel := rfl

theorem resolve_eq_some_iff (s : State) (n : Fin 16) (channel : Nat) (i : SlotNo) :
    resolve s (n.val + 1) channel = some i ↔ s.slotMap[n.val * 8 + channel]? = some (some i) := by
  rw [resolve, slotMapIndex_succ]
  rcases s.slotMap[n.val * 8 + channel]? with _ | _ | j <;> simp

/-! ## Channel entries and acceptance -/

theorem entryUsed_iff (payload : List Byte) (k : Nat) : entryUsed payload k = true ↔
    byteAt payload (3 + 10 * k) ≤ 7 ∧ byteAt payload (3 + 10 * k + 1) % 2 = 1 ∧
      ∀ j < k, byteAt payload (3 + 10 * j) ≠ byteAt payload (3 + 10 * k) := by
  simp only [entryUsed, Bool.and_eq_true, decide_eq_true_eq, beq_iff_eq, List.all_eq_true, List.mem_range, bne_iff_ne,
    and_assoc]
  exact Iff.rfl

theorem workEntry_of_unused {node : Nat} {payload : List Byte} {k : Nat} {s : State}
    (h : ¬ entryUsed payload k = true) : workEntry node payload k s = s := if_neg h

theorem workEntry_of_resolved {node : Nat} {payload : List Byte} {k : Nat} {s : State} {i : SlotNo}
    (h : entryUsed payload k = true) (hi : resolve s node (byteAt payload (3 + 10 * k)) = some i) :
    workEntry node payload k s = workSample i (channelSample payload k) s := by
  rw [workEntry, if_pos h, channelOffset, hi]

theorem workEntry_of_unassigned {node : Nat} {payload : List Byte} {k : Nat} {s : State}
    (hi : resolve s node (byteAt payload (3 + 10 * k)) = none) : workEntry node payload k s = s := by
  rw [workEntry, channelOffset, hi, ite_self]

/-- The clamped value is the one that the three cases of R27 give. -/
theorem eq_clampInt {lo hi raw v : Int} (hin : lo ≤ raw → raw ≤ hi → v = raw)
    (hbelow : raw < lo → v = lo) (habove : hi < raw → v = hi) : v = clampInt lo hi raw := by
  unfold clampInt
  split <;> [skip; split]
  · exact hbelow ‹_›
  · exact habove ‹_›
  · exact hin (by omega) (by omega)

theorem isDuplicate_iff (t : Tracker) (x : ClampedSample) : isDuplicate t x = true ↔
    ∃ prev, t.previous = some prev ∧ (x.tick + 65536 - prev.tick) % 65536 = 0 := by
  unfold isDuplicate
  cases t.previous <;> simp [tickDelta]

theorem accepted_iff (s : State) (m : ModuleRecord) (x : ClampedSample) : accepted s m x = true ↔
    m.isQuarantined = false ∧ s.engine = .active ∧ s.profiles[m.family].valid = true ∧
      ∀ prev, m.tracker.previous = some prev → (x.tick + 65536 - prev.tick) % 65536 ≠ 0 := by
  have hd : isDuplicate m.tracker x = false ↔
      ∀ prev, m.tracker.previous = some prev → (x.tick + 65536 - prev.tick) % 65536 ≠ 0 := by
    rw [← Bool.not_eq_true, isDuplicate_iff]
    push Not
    rfl
  simp only [accepted, Bool.and_eq_true, Bool.not_eq_true', beq_iff_eq, and_assoc, hd]

theorem isQuarantined_iff (m : ModuleRecord) :
    m.isQuarantined = true ↔ ∃ reason g, m.state = .quarantined reason g := by
  unfold ModuleRecord.isQuarantined
  cases m.state <;> simp

theorem workSample_of_vacant {i : SlotNo} {x : ClampedSample} {s : State} (h : s.slots[i] = none) :
    workSample i x s = s := by
  rw [workSample, h]

theorem workSample_of_unaccepted {i : SlotNo} {x : ClampedSample} {s : State} {m : ModuleRecord}
    (h : s.slots[i] = some m) (ha : ¬ accepted s m x = true) : workSample i x s = s := by
  rw [workSample, h]
  exact if_neg ha

theorem workSample_of_limit {i : SlotNo} {x : ClampedSample} {s : State} {m : ModuleRecord} {reason : QuarantineReason}
    (h : s.slots[i] = some m) (ha : accepted s m x = true)
    (hl : hardLimit s.profiles[m.family] m.cells x = some reason) :
    workSample i x s = quarantineSlot i reason m s := by
  rw [workSample, h]
  simp only [ha, hl, if_true]

theorem workSample_of_within {i : SlotNo} {x : ClampedSample} {s : State} {m : ModuleRecord}
    (h : s.slots[i] = some m) (ha : accepted s m x = true) (hl : hardLimit s.profiles[m.family] m.cells x = none) :
    workSample i x s =
      deliver i (trackSample s.profiles[m.family] m.cells m.figures.tmax m.tracker x).2 (m.state == .admitted)
        (setSlot i (some (trackedRecord m (trackSample s.profiles[m.family] m.cells m.figures.tmax m.tracker x).1
          (trackSample s.profiles[m.family] m.cells m.figures.tmax m.tracker x).2)) s) := by
  rw [workSample, h]
  simp only [ha, hl, if_true]

theorem SlotWork.nodes_eq {s t : State} (h : SlotWork s t) : t.nodes = s.nodes := by
  rw [h]

theorem workEntry_work (node : Nat) (payload : List Byte) (k : Nat) (s : State) :
    SlotWork s (workEntry node payload k s) := by
  rcases workEntry_worked node payload k s with e | ⟨i, w⟩
  · rw [e]
    exact .refl s
  · exact w.work

/-- Settles O15: a payload is malformed by the four tests of R25, and a used entry's sample is the clamped one. -/
theorem observedFrameNoted : Obligations.ObservedFrameNoted := by
  refine ⟨fun node payload s n hn => ⟨fun bad => ?_, fun good => ?_⟩,
    fun payload s n k i x hc hv hj hi hvolt hcurr htemp htick hclip => ?_⟩
  · subst hn
    rw [observe, if_pos ((payloadMalformed_iff payload).2 bad), updateNode_of_mem]
    rfl
  · subst hn
    have hobs : observe (n.val + 1) payload s = (List.range (byteAt payload 2)).foldl (fun u k => workEntry (n.val + 1) payload k u)
        { s with nodes := s.nodes.set n (noteArrival (unsignedAt payload 0 2) s.engineTime s.nodes[n]) } := by
      rw [observe, if_neg (mt (payloadMalformed_iff payload).1 good), updateNode_of_mem]
    refine ⟨?_, hobs⟩
    rw [hobs]
    have hwork := SlotWork.foldl _ (fun u k => workEntry_work (n.val + 1) payload k u) (List.range (byteAt payload 2))
      { s with nodes := s.nodes.set n (noteArrival (unsignedAt payload 0 2) s.engineTime s.nodes[n]) }
    exact hwork.nodes_eq
  · have used : entryUsed payload k = true := (entryUsed_iff payload k).2 ⟨hc, hv, hj⟩
    have hx : x = channelSample payload k := by
      obtain ⟨volt, curr, temp, tick, clipped⟩ := x
      obtain ⟨v1, v2, v3, -, v5⟩ := hvolt
      obtain ⟨-, -, c3, c4, c5⟩ := hcurr
      obtain ⟨-, -, t3, t4, t5⟩ := htemp
      have ev : volt = min (unsignedAt payload (3 + 10 * k + 2) 3) 800000 := by
        simp only at v1 v2 v3 v5
        omega
      have ec := eq_clampInt c3 c4 c5
      have et := eq_clampInt t3 t4 t5
      simp only at ec et htick hclip
      simp only [channelSample, channelOffset, ClampedSample.mk.injEq, ev, ec, et, htick, true_and]
      rw [Bool.eq_iff_iff, hclip, ev, ec, et]
      simp only [Bool.or_eq_true, bne_iff_ne, or_assoc, Ne, Nat.cast_inj]
    rw [workEntry_of_resolved used ((resolve_eq_some_iff s n _ i).2 hi), hx]

/-- Settles O16: each reason of R28 and R29 makes `accepted` false, and each of R26 leaves an entry unused. -/
theorem unacceptedSampleLeaves : Obligations.UnacceptedSampleLeaves := by
  refine fun i x s => ⟨workSample_of_vacant, fun m hm h => workSample_of_unaccepted hm fun ha => ?_,
    fun node payload k h => ?_⟩
  · obtain ⟨hq, he, hv, hd⟩ := (accepted_iff s m x).1 ha
    rcases h with h | h | h | ⟨prev, hp, h⟩
    · exact Bool.false_ne_true (hq ▸ (isQuarantined_iff m).2 h)
    · exact h he
    · exact Bool.false_ne_true (h ▸ hv)
    · exact hd prev hp h
  · by_cases hu : entryUsed payload k = true
    · obtain ⟨hc, hv, hj⟩ := (entryUsed_iff payload k).1 hu
      rcases h with h | h | ⟨j, hjk, h⟩ | h
      · omega
      · omega
      · exact absurd h (hj j hjk)
      · exact workEntry_of_unassigned h
    · exact workEntry_of_unused hu

/-! ## Hard limits (R31) and quarantine (R8, R9) -/

/-- The first reason of R31 that holds for a sample. -/
def crosses (p : Profile) (cells : Nat) (x : ClampedSample) (reason : QuarantineReason) : Prop :=
  (reason = .highVoltage ∧ p.hardHigh * cells < x.voltage) ∨
    (reason = .lowVoltage ∧ x.voltage ≤ p.hardHigh * cells ∧ x.voltage < p.hardLow * cells) ∨
    (reason = .overTemperature ∧ x.voltage ≤ p.hardHigh * cells ∧ p.hardLow * cells ≤ x.voltage ∧
      p.hardTemperature < x.temperature)

theorem hardLimit_of_crosses {p : Profile} {cells : Nat} {x : ClampedSample} {reason : QuarantineReason}
    (h : crosses p cells x reason) : hardLimit p cells x = some reason := by
  unfold hardLimit moduleVoltage
  rcases h with ⟨rfl, h⟩ | ⟨rfl, h1, h2⟩ | ⟨rfl, h1, h2, h3⟩
  · rw [if_pos h]
  · rw [if_neg (by omega), if_pos h2]
  · rw [if_neg (by omega), if_neg (by omega), if_pos h3]

theorem hardLimit_of_within {p : Profile} {cells : Nat} {x : ClampedSample} (hhigh : x.voltage ≤ p.hardHigh * cells)
    (hlow : p.hardLow * cells ≤ x.voltage) (htemp : x.temperature ≤ p.hardTemperature) : hardLimit p cells x = none := by
  unfold hardLimit moduleVoltage
  rw [if_neg (by omega), if_neg (by omega), if_neg (by omega)]

theorem hasUnstruckEntry_congr {s t : State} (h : t.run = s.run) (i : SlotNo) :
    hasUnstruckEntry t i = hasUnstruckEntry s i := by
  simp only [hasUnstruckEntry, h]

/-- The state of a quarantine before its report and the disturbing of a run (R8, R9). -/
def quarantinedState (i : SlotNo) (reason : QuarantineReason) (m : ModuleRecord) (s : State) : State :=
  quarantinePlace i (setSlot i (some (quarantinedRecord reason (inFixedPlace s i) m)) s)

theorem quarantinedState_eq (i : SlotNo) (reason : QuarantineReason) (m : ModuleRecord) (s : State) :
    quarantinedState i reason m s = { s with
      slots := s.slots.set i (some (quarantinedRecord reason (inFixedPlace s i) m))
      places := (quarantinedState i reason m s).places
      records := (quarantinedState i reason m s).records } :=
  quarantinePlace_work i _

theorem quarantineSlot_eq (i : SlotNo) (reason : QuarantineReason) (m : ModuleRecord) (s : State) :
    quarantineSlot i reason m s = { requestReport (.quarantine i reason m.grade) (quarantinedState i reason m s) with
      run := s.run.map fun r => { r with disturbed := r.disturbed || hasUnstruckEntry s i } } := by
  have hrun : (requestReport (.quarantine i reason m.grade) (quarantinedState i reason m s)).run = s.run := by
    rw [(requestReport_keeps _ _).2.2.2, quarantinedState_eq]
  unfold quarantineSlot
  rw [disturbFor_eq, show quarantinePlace i _ = quarantinedState i reason m s from rfl, hrun, hasUnstruckEntry_congr hrun]

/-- Settles O17: the slot's record alone differs where the place is looked up, so the place is that of the state before. -/
theorem hardLimitQuarantines : Obligations.HardLimitQuarantines := by
  intro i x s m reason hm hq he hv hd p hcross u record quarantined
  have ha : accepted s m x = true := (accepted_iff s m x).2 ⟨hq, he, hv, hd⟩
  have hu : u = { requestReport (.quarantine i reason m.grade) (quarantinedState i reason m s) with
      run := s.run.map fun r => { r with disturbed := r.disturbed || hasUnstruckEntry s i } } :=
    (workSample_of_limit hm ha (hardLimit_of_crosses hcross)).trans (quarantineSlot_eq i reason m s)
  obtain ⟨-, kplaces, krecords, -⟩ := requestReport_keeps (.quarantine i reason m.grade) (quarantinedState i reason m s)
  have hplaces : u.places = (quarantinedState i reason m s).places := by rw [hu]; exact kplaces
  have hrecords : u.records = (quarantinedState i reason m s).records := by rw [hu]; exact krecords
  let w := setSlot i (some (quarantinedRecord reason (inFixedPlace s i) m)) s
  refine ⟨?_, fun g d h => ?_, fun h => ?_, fun q hp hf => ?_, fun q string pos hp hf ho => ?_, fun q hp hf => ?_,
    fun hp => ?_, ?_⟩
  · have hquarantined : quarantined = quarantinedState i reason m s := by
      rw [quarantinedState_eq, ← hplaces, ← hrecords]
      rfl
    rw [hquarantined]
    exact hu
  · rw [h]; rfl
  · rcases h with h | h | h <;> rw [h] <;> rfl
  · have hstate : quarantinedState i reason m s = updatePlace q (fun p => { p with alarm := true }) w :=
      quarantinePlace_of_fixed (s := w) hp hf
    exact ⟨hplaces.trans (by rw [hstate]; rfl), hrecords.trans (by rw [hstate]; rfl)⟩
  · have hstate : quarantinedState i reason m s = emptyPosition string pos w :=
      (quarantinePlace_of_unfixed (s := w) hp hf).trans (leavePlace_of_owned hp hf ho)
    exact (emptyPosition_left string pos w).congr rfl rfl rfl (hplaces.trans (congrArg State.places hstate))
      (hrecords.trans (congrArg State.records hstate))
  · have hstate : quarantinedState i reason m s = leavePlace i w := quarantinePlace_of_unfixed (s := w) hp hf
    rw [hplaces, hstate]
    exact leavePlace_emptied_place (s := w) hp hf
  · have hstate : quarantinedState i reason m s = w := quarantinePlace_of_none (s := w) hp
    exact ⟨hplaces.trans (by rw [hstate]; rfl), hrecords.trans (by rw [hstate]; rfl)⟩
  · rw [hu]
    exact requestReport_flag (.quarantine i reason m.grade) _ (by nofun)

/-! ## Node silence (R20) -/

theorem getLsbD_foldl_setBits {α : Type} {w : Nat} (p : α → Bool) (f : α → Nat) (l : List α) (b : BitVec w) (j : Nat)
    (hj : j < w) :
    (l.foldl (fun acc k => if p k then acc ||| BitVec.ofNat w (2 ^ f k) else acc) b).getLsbD j =
      (b.getLsbD j || l.any fun k => p k && decide (f k = j)) := by
  induction l generalizing b with
  | nil => simp
  | cons k l ih =>
    rw [List.foldl_cons, ih, List.any_cons, ← Bool.or_assoc]
    congr 1
    split
    · next h => rw [BitVec.getLsbD_or, BitVec.getLsbD_ofNat, Nat.testBit_two_pow, h, decide_eq_true hj, Bool.true_and]
    · next h => rw [Bool.eq_false_iff.2 h, Bool.false_and, Bool.or_false]

theorem silentNodes_bit (s : State) (k : Fin 16) : (silentNodes s).getLsbD k = s.nodes[k].silent := by
  have h := getLsbD_foldl_setBits (fun k : Fin 16 => s.nodes[k].silent) (fun k => k.val) (List.finRange 16) 0 k.val k.isLt
  rw [silentNodes, h]
  rw [Bool.eq_iff_iff]
  simp [Fin.val_inj]

theorem mem_nodeSlots (s : State) (n : Fin 16) (i : SlotNo) :
    i ∈ nodeSlots s (n.val + 1) ↔ ∃ c < 8, s.slotMap[n.val * 8 + c]? = some (some i) := by
  simp only [nodeSlots, List.mem_filterMap, List.mem_range, resolve_eq_some_iff]

theorem resetTracker_idem (m : ModuleRecord) : resetTracker (resetTracker m) = resetTracker m := by
  unfold resetTracker
  split
  · rfl
  · exact ite_self _

theorem silenceDue_iff (s : State) (n : Fin 16) : silenceDue s (n.val + 1) = true ↔
    s.engine = .active ∧ (∃ i, ∃ c < 8, s.slotMap[n.val * 8 + c]? = some (some i)) ∧ s.nodes[n].silent = false ∧
      ∃ t, s.nodes[n].lastArrival = some t ∧ t + s.settings.silenceTimeout ≤ s.engineTime := by
  have hnamed : (nodeSlots s (n.val + 1)).isEmpty = false ↔
      ∃ i, ∃ c < 8, s.slotMap[n.val * 8 + c]? = some (some i) := by
    simp only [List.isEmpty_eq_false_iff_exists_mem, mem_nodeSlots]
  simp only [silenceDue, getElem?_node, Bool.and_eq_true, beq_iff_eq, decide_eq_true_eq, Bool.not_eq_true', hnamed,
    Nat.le_add_left, and_true, and_assoc]
  refine and_congr_right fun _ => and_congr_right fun _ => ?_
  rcases s.nodes[n] with ⟨tick, arrival, silent⟩
  cases arrival <;> cases silent <;> simp

/-- Settles O19: `silenceDue` is the condition of R20, and the entries of the node name the slots that are reset. -/
theorem nodeFallsSilent : Obligations.NodeFallsSilent := by
  intro s n e a named due
  have hdue : silenceDue a (n.val + 1) = true ↔ due := silenceDue_iff a n
  refine ⟨fun h => congrArg Host.Outcome.next (if_neg (mt hdue.1 h)), fun h => ?_⟩
  let b : State := { a with nodes := s.nodes.set n { s.nodes[n] with silent := true } }
  let c := updateSlots (nodeSlots b (n.val + 1)) resetTracker b
  have hb : updateNode (n.val + 1) (fun e => { e with silent := true }) a = b := updateNode_of_mem n _ a
  have hc : c = { b with slots := c.slots } := updateSlots_work _ _ b
  have hslot := updateSlots_slot (nodeSlots b (n.val + 1)) resetTracker resetTracker_idem b
  have hexec : exec (.nodeSilence (n.val + 1) e) s =
      .next (startPorts (requestReport (.silent (n.val + 1) (silentNodes c)) c)) := by
    have hfall : fallSilent (n.val + 1) a = requestReport (.silent (n.val + 1) (silentNodes c)) c := by
      simp only [fallSilent, hb]
      rfl
    exact congrArg Host.Outcome.next ((if_pos (hdue.2 h)).trans (congrArg startPorts hfall))
  refine ⟨c.slots, silentNodes c, ?_, fun i hi => ?_, fun i hi => ?_, fun k => ?_⟩
  · rw [hexec, hc]
  · exact (hslot i).trans (if_pos ((mem_nodeSlots b n i).2 hi))
  · exact (hslot i).trans (if_neg (mt (mem_nodeSlots b n i).1 hi))
  · rw [silentNodes_bit, hc]
    simp only [b, Fin.getElem_fin, Vector.getElem_set, Fin.val_inj]
    by_cases hk : n = k
    · simp [hk]
    · simp [hk, Ne.symm hk]

end Sys2Proof.Machine
end

section
/-! SUPPORT. The segments of a sample: phases, gaps, capacity runs, rest windows and steps; the proofs of O20 and O21. -/

namespace Sys2Proof.Machine

section
variable {p : Profile} {cells : Nat} {tmax : Option Int} {t : Tracker} {x : ClampedSample} {prev : Sample}

/-! ## What one sample gives -/

/-- The tracker after a sample from its run and window. -/
def trackerAfter (p : Profile) (cells : Nat) (t : Tracker) (x : ClampedSample) (run : Option CapacityRun)
    (window : Option RestWindow × Option WindowResult) : Tracker :=
  { previous := some (asPrevious x (phaseOf p x.current))
    phase := phaseOf p x.current
    charged := chargedAfter p cells t.charged x (phaseOf p x.current) window.2.isSome
    run := run
    window := openWindow p window.1 x (phaseOf p x.current)
      (chargedAfter p cells t.charged x (phaseOf p x.current) window.2.isSome) }

/-- The run of a sample that follows another, and the run it completed (R33 to R36). -/
def runAfter (p : Profile) (cells : Nat) (t : Tracker) (x : ClampedSample) (prev : Sample) :
    Option CapacityRun × Option CapacityRun :=
  carryRun p cells t.run prev x (phaseOf p x.current) (min (tickDelta prev.tick x.tick) p.maxGap)
    (decide (p.maxGap < tickDelta prev.tick x.tick))

/-- The window of a sample that follows another, before one may open, and the window it completed (R33, R40 to R42). -/
def windowAfter (p : Profile) (t : Tracker) (x : ClampedSample) (prev : Sample) :
    Option RestWindow × Option WindowResult :=
  carryWindow p t.window x (phaseOf p x.current) (min (tickDelta prev.tick x.tick) p.maxGap)
    (decide (p.maxGap < tickDelta prev.tick x.tick))

theorem trackSample_of_previous (h : t.previous = some prev) : trackSample p cells tmax t x =
    (trackerAfter p cells t x (runAfter p cells t x prev).1 (windowAfter p t x prev),
      { run := (runAfter p cells t x prev).2
        step := captureStep p prev x (phaseOf p x.current) (tickDelta prev.tick x.tick)
        window := (windowAfter p t x prev).2
        tmax := risingTemperature tmax x.temperature }) := by
  simp only [trackSample, h]
  rfl

theorem trackSample_of_first (h : t.previous = none) : trackSample p cells tmax t x =
    (trackerAfter p cells t x t.run (carryWindow p t.window x (phaseOf p x.current) 0 false),
      { run := none, step := none, window := (carryWindow p t.window x (phaseOf p x.current) 0 false).2,
        tmax := risingTemperature tmax x.temperature }) := by
  simp only [trackSample, h]
  rfl

/-! ## Phases and gaps (R32, R33) -/

theorem phaseOf_of_charge {current : Int} (h : (p.restThreshold : Int) < current) : phaseOf p current = .charge := if_pos h

theorem phaseOf_of_discharge {current : Int} (h : current < -(p.restThreshold : Int)) : phaseOf p current = .discharge :=
  (if_neg (by omega)).trans (if_pos h)

theorem phaseOf_of_rest {current : Int} (h : ¬ (p.restThreshold : Int) < current)
    (h' : ¬ current < -(p.restThreshold : Int)) : phaseOf p current = .rest :=
  (if_neg h).trans (if_neg h')

theorem phaseOf_eq_discharge_iff {current : Int} :
    phaseOf p current = .discharge ↔ current < -(p.restThreshold : Int) := by
  unfold phaseOf
  split <;> [skip; split] <;> simp <;> omega

theorem phaseOf_ne_rest_iff {current : Int} : phaseOf p current ≠ .rest ↔
    ¬ (¬ (p.restThreshold : Int) < current ∧ ¬ current < -(p.restThreshold : Int)) := by
  unfold phaseOf
  split <;> [skip; split] <;> simp <;> omega

theorem countGap_of_kept {delta gaps : Nat} (h : delta ≤ p.maxGap ∨ gaps + 1 ≤ p.gapAllowance) :
    countGap p (decide (p.maxGap < delta)) gaps = some (if p.maxGap < delta then gaps + 1 else gaps) := by
  unfold countGap
  simp only [decide_eq_true_eq]
  split
  · rw [if_neg (by omega)]
  · rfl

theorem countGap_of_over {delta gaps : Nat} (h : p.maxGap < delta) (h' : p.gapAllowance < gaps + 1) :
    countGap p (decide (p.maxGap < delta)) gaps = none := by
  rw [countGap, if_pos (decide_eq_true h), if_pos h']

/-! ## Capacity runs (R34 to R36) -/

section
variable {phase : Phase} {used : Nat} {gap : Bool} {r : CapacityRun}

theorem carryRun_of_opening (h : phase = .discharge) (hp : prev.phase ≠ .discharge)
    (hv : p.fullMark * cells ≤ prev.voltage) : carryRun p cells none prev x phase used gap =
      (some { accumulator := 0, minVoltage := x.voltage, gaps := 0, clipped := x.clipped }, none) :=
  if_pos ⟨h, hp, hv⟩

theorem carryRun_of_idle (h : phase ≠ .discharge ∨ prev.phase = .discharge ∨ prev.voltage < p.fullMark * cells) :
    carryRun p cells none prev x phase used gap = (none, none) := by
  refine if_neg fun ⟨h1, h2, h3⟩ => ?_
  rcases h with h | h | h
  · exact h h1
  · exact h2 h
  · exact Nat.not_lt.2 h3 h

theorem carryRun_of_abandoned (h : countGap p gap r.gaps = none) :
    carryRun p cells (some r) prev x phase used gap = (none, none) := by
  simp only [carryRun, h]

theorem carryRun_of_progress {gaps : Nat} (h : countGap p gap r.gaps = some gaps) (hd : phase = .discharge) :
    carryRun p cells (some r) prev x phase used gap = (some (takeIntoRun r prev x used gaps), none) := by
  simp only [carryRun, h, hd, if_true]

theorem carryRun_of_closing {gaps : Nat} (h : countGap p gap r.gaps = some gaps) (hd : phase ≠ .discharge) :
    carryRun p cells (some r) prev x phase used gap =
      (none, if runComplete p cells (takeIntoRun r prev x used gaps) then some (takeIntoRun r prev x used gaps) else none) := by
  simp only [carryRun, h, hd, if_false]
  split <;> rfl

end

theorem runComplete_iff (r : CapacityRun) :
    runComplete p cells r = true ↔ r.minVoltage ≤ p.emptyMark * cells ∧ r.accumulator < 0 := by
  simp only [runComplete, Bool.and_eq_true, decide_eq_true_eq]
  exact Iff.rfl

theorem holdAccumulator_cases (a : Int) :
    (a ≤ 2 ^ 48 → -(2 ^ 48) ≤ a → holdAccumulator a = a) ∧ (2 ^ 48 < a → holdAccumulator a = 2 ^ 48) ∧
      (a < -(2 ^ 48) → holdAccumulator a = -(2 ^ 48)) := by
  have hlimit : Config.accumulatorLimit = 2 ^ 48 := rfl
  unfold holdAccumulator
  rw [hlimit]
  refine ⟨fun h h' => ?_, fun h => if_pos h, fun h => ?_⟩
  · rw [if_neg (Int.not_lt.2 h), if_neg (Int.not_lt.2 h')]
  · rw [if_neg (by omega), if_pos h]

/-- Settles O20: the run is what `carryRun` gives at the raw Δt, held to the maximum gap. -/
theorem capacityRunCarried : Obligations.CapacityRunCarried := by
  intro p cells tmax t x prev hprev delta used discharge u
  have hu : u = _ := trackSample_of_previous hprev
  have hrun : u.1.run = (runAfter p cells t x prev).1 := by rw [hu]; rfl
  have hdone : u.2.run = (runAfter p cells t x prev).2 := by rw [hu]
  have gives : ∀ a b, runAfter p cells t x prev = (a, b) → u.1.run = a ∧ u.2.run = b := fun a b h => by
    rw [hrun, hdone, h]
    exact ⟨rfl, rfl⟩
  have hphase : phaseOf p x.current = .discharge ↔ discharge := phaseOf_eq_discharge_iff
  refine ⟨fun hr hd hp hv => gives _ _ ?_, fun hr h => gives _ _ ?_, fun r hr hg ha => gives _ _ ?_, fun r hr hk => ?_⟩
  · rw [runAfter, hr, carryRun_of_opening (hphase.2 hd) hp hv]
  · rw [runAfter, hr, carryRun_of_idle (h.imp_left (mt hphase.1))]
  · have hgaps : countGap p (decide (p.maxGap < tickDelta prev.tick x.tick)) r.gaps = none := countGap_of_over hg ha
    rw [runAfter, hr, carryRun_of_abandoned hgaps]
  · have hgaps : countGap p (decide (p.maxGap < tickDelta prev.tick x.tick)) r.gaps = _ := countGap_of_kept hk
    let r' := takeIntoRun r prev x used (if p.maxGap < delta then r.gaps + 1 else r.gaps)
    obtain ⟨hin, hover, hunder⟩ := holdAccumulator_cases (r.accumulator + (prev.current + x.current) * used)
    refine ⟨r', hin, hover, hunder, rfl, rfl, rfl, fun hd => gives _ _ ?_, fun hd => ?_⟩
    · rw [runAfter, hr, carryRun_of_progress hgaps (hphase.2 hd)]
      rfl
    · obtain ⟨h1, h2⟩ := gives _ (if runComplete p cells r' then some r' else none)
        (by rw [runAfter, hr, carryRun_of_closing hgaps (mt hphase.1 hd)]; rfl)
      exact ⟨h1, fun h => h2.trans (if_pos ((runComplete_iff r').2 h)), fun h => h2.trans (if_neg (mt (runComplete_iff r').1 h))⟩

/-! ## Rest windows and steps (R38 to R44) -/

section
variable {phase : Phase} {used : Nat} {gap : Bool} {w : RestWindow} {gaps : Nat}

theorem carryWindow_of_busy {window : Option RestWindow} (h : phase ≠ .rest) :
    carryWindow p window x phase used gap = (none, none) := by
  cases window with
  | none => rfl
  | some w => exact if_pos h

theorem carryWindow_of_abandoned (h : countGap p gap w.gaps = none) :
    carryWindow p (some w) x phase used gap = (none, none) := by
  simp only [carryWindow, h, ite_self]

theorem carryWindow_of_rest (h : countGap p gap w.gaps = some gaps) :
    carryWindow p (some w) x .rest used gap = progressWindow p w x used gaps := by
  simp only [carryWindow, h, ne_eq, not_true_eq_false, if_false]

theorem progressWindow_of_settling (h : w.stage = .settling) (hl : w.elapsed + used < p.settleTime * 1000) :
    progressWindow p w x used gaps = (some { w with elapsed := w.elapsed + used, gaps := gaps }, none) := by
  simp only [progressWindow, h]
  exact if_neg (Nat.not_le.2 hl)

theorem progressWindow_of_settled (h : w.stage = .settling) (hl : p.settleTime * 1000 ≤ w.elapsed + used) :
    progressWindow p w x used gaps = (some { stage := .opened x.voltage, elapsed := 0, gaps := gaps }, none) := by
  simp only [progressWindow, h]
  exact if_pos hl

theorem progressWindow_of_opened {v : Nat} (h : w.stage = .opened v) (hl : w.elapsed + used < p.restWindow * 1000) :
    progressWindow p w x used gaps = (some { w with elapsed := w.elapsed + used, gaps := gaps }, none) := by
  simp only [progressWindow, h]
  exact if_neg (Nat.not_le.2 hl)

theorem progressWindow_of_completed {v : Nat} (h : w.stage = .opened v) (hl : p.restWindow * 1000 ≤ w.elapsed + used) :
    progressWindow p w x used gaps =
      (none, some { startVoltage := v, endVoltage := x.voltage, elapsed := w.elapsed + used }) := by
  simp only [progressWindow, h]
  exact if_pos hl

end

theorem chargedAfter_rest (charged completed : Bool) :
    chargedAfter p cells charged x .rest completed = (charged && !completed) := rfl

theorem openWindow_of_busy {phase : Phase} (charged : Bool) (h : phase ≠ .rest) :
    openWindow p none x phase charged = none :=
  if_neg fun h' => h h'.1

theorem openWindow_of_rest (charged : Bool) : openWindow p none x .rest charged = if charged then
    some { stage := if p.settleTime = 0 then .opened x.voltage else .settling, elapsed := 0, gaps := 0 } else none := by
  simp only [openWindow, true_and]

/-- What a window that does not stay open on a REST sample leaves, by the charged mark (R38, R39). -/
theorem trackerAfter_of_rest (run : Option CapacityRun) (window : Option RestWindow × Option WindowResult)
    (h : phaseOf p x.current = .rest) :
    (trackerAfter p cells t x run window).charged = (t.charged && !window.2.isSome) ∧
      (trackerAfter p cells t x run window).window = openWindow p window.1 x .rest (t.charged && !window.2.isSome) := by
  simp only [trackerAfter, h, chargedAfter_rest, and_self]

theorem trackerAfter_of_charge (run : Option CapacityRun) (h : phaseOf p x.current = .charge) :
    (trackerAfter p cells t x run (none, none)).charged = (t.charged || decide (p.fullMark * cells ≤ x.voltage)) ∧
      (trackerAfter p cells t x run (none, none)).window = none := by
  simp only [trackerAfter, h]
  exact ⟨rfl, openWindow_of_busy _ nofun⟩

theorem trackerAfter_of_discharge (run : Option CapacityRun) (h : phaseOf p x.current = .discharge) :
    (trackerAfter p cells t x run (none, none)).charged = false ∧
      (trackerAfter p cells t x run (none, none)).window = none := by
  simp only [trackerAfter, h]
  exact ⟨rfl, openWindow_of_busy _ nofun⟩

theorem captureStep_of_valid {phase : Phase} {delta : Nat}
    (h : phase ≠ .rest ∧ prev.phase = .rest ∧ p.stepMinimum ≤ (x.current - prev.current).natAbs ∧
      delta ≤ p.stepInterval ∧ prev.clipped = false ∧ x.clipped = false ∧
      ((prev.voltage : Int) - x.voltage) * (x.current - prev.current) < 0) :
    captureStep p prev x phase delta = some
      { deltaV := (prev.voltage : Int) - x.voltage, deltaI := x.current - prev.current, temperature := x.temperature } :=
  if_pos h

theorem captureStep_of_invalid {phase : Phase} {delta : Nat}
    (h : ¬ (phase ≠ .rest ∧ prev.phase = .rest ∧ p.stepMinimum ≤ (x.current - prev.current).natAbs ∧
      delta ≤ p.stepInterval ∧ prev.clipped = false ∧ x.clipped = false ∧
      ((prev.voltage : Int) - x.voltage) * (x.current - prev.current) < 0)) :
    captureStep p prev x phase delta = none :=
  if_neg h

/-- What a REST sample leaves of the tracker and delivers, from what its open window gives. -/
theorem rest_gives {run : Option CapacityRun} {window : Option RestWindow} {result : Option WindowResult}
    {u : Tracker × Delivery} {carried : Option RestWindow × Option WindowResult}
    (hu1 : u.1 = trackerAfter p cells t x run carried) (hu2 : u.2.window = carried.2)
    (hc : carried = (window, result)) (h : phaseOf p x.current = .rest) :
    u.1.charged = (t.charged && !result.isSome) ∧ u.2.window = result ∧
      u.1.window = openWindow p window x .rest (t.charged && !result.isSome) := by
  obtain ⟨hcharged, hwindow⟩ := trackerAfter_of_rest (p := p) (cells := cells) (t := t) (x := x) run carried h
  rw [hu1, hu2, hcharged, hwindow, hc]
  exact ⟨rfl, rfl, rfl⟩

end

/-- Settles O21: the phase decides whether the window is dropped or carried, and the window what stays of the mark. -/
theorem restWindowAndStepCarried : Obligations.RestWindowAndStepCarried := by
  refine ⟨fun p cells tmax t x prev hprev => ?_, fun p cells tmax t x hprev hrun hwindow => ?_⟩
  · intro delta used charge discharge rest phase u dV dI
    have hu : u = _ := trackSample_of_previous hprev
    have hu1 : u.1 = trackerAfter p cells t x (runAfter p cells t x prev).1 (windowAfter p t x prev) := by rw [hu]
    have hu2 : u.2.window = (windowAfter p t x prev).2 := by rw [hu]
    have hstep : u.2.step = captureStep p prev x (phaseOf p x.current) delta := by rw [hu]; rfl
    have dropped : phaseOf p x.current ≠ .rest → windowAfter p t x prev = (none, none) := carryWindow_of_busy
    have restPhase : rest → phaseOf p x.current = .rest := fun h => phaseOf_of_rest h.1 h.2
    have gives : ∀ window result, rest → windowAfter p t x prev = (window, result) →
        u.1.charged = (t.charged && !result.isSome) ∧ u.2.window = result ∧
          u.1.window = openWindow p window x .rest (t.charged && !result.isSome) :=
      fun window result h hc => rest_gives hu1 hu2 hc (restPhase h)
    refine ⟨by rw [hu1]; rfl, by rw [hu1]; rfl, fun hd _ => ?_, fun hc => ?_, fun hr hw => ?_, fun w hr hw hk => ?_,
      fun w hr hw hg ha => ?_, fun h => ?_, fun h => ?_⟩
    · have hphase : phaseOf p x.current = .discharge := phaseOf_of_discharge hd
      have hd := dropped (by rw [hphase]; nofun)
      obtain ⟨h1, h2⟩ := trackerAfter_of_discharge (t := t) (cells := cells) (runAfter p cells t x prev).1 hphase
      rw [hu1, hu2, hd]
      exact ⟨h1, h2, rfl⟩
    · have hphase : phaseOf p x.current = .charge := phaseOf_of_charge hc
      have hd := dropped (by rw [hphase]; nofun)
      obtain ⟨h1, h2⟩ := trackerAfter_of_charge (t := t) (cells := cells) (runAfter p cells t x prev).1 hphase
      rw [hu1, hu2, hd]
      exact ⟨h1, h2, rfl⟩
    · obtain ⟨h1, h2, h3⟩ := gives none none hr (by rw [windowAfter, hw]; rfl)
      simp only [Option.isSome_none, Bool.not_false, Bool.and_true, openWindow_of_rest] at h1 h3
      refine ⟨h1, h2, fun hc => by simp [h3, hc], fun hc hs => ?_, fun hc hs => by simp [h3, hc, hs]⟩
      simp [h3, hc, hs.ne']
    · intro gaps
      have hgaps : countGap p (decide (p.maxGap < tickDelta prev.tick x.tick)) w.gaps = some gaps := countGap_of_kept hk
      have progress : windowAfter p t x prev = progressWindow p w x used gaps := by
        rw [windowAfter, restPhase hr, hw, carryWindow_of_rest hgaps]
        rfl
      have stays : ∀ w', progressWindow p w x used gaps = (some w', none) →
          u.1.charged = t.charged ∧ u.1.window = some w' ∧ u.2.window = none := fun w' h => by
        obtain ⟨h1, h2, h3⟩ := gives _ _ hr (progress.trans h)
        exact ⟨by rw [h1]; simp, h3, h2⟩
      have settling := fun hs hl => stays _ (progressWindow_of_settling hs hl)
      have settled := fun hs hl => stays _ (progressWindow_of_settled hs hl)
      have opened := fun v hs hl => stays _ (progressWindow_of_opened (v := v) hs hl)
      refine ⟨fun hs => ?_, fun v hs hl => (opened v hs hl).1, fun hs hl => (settling hs hl).2, fun hs hl => (settled hs hl).2,
        fun v hs hl => (opened v hs hl).2, fun v hs hl => ?_⟩
      · rcases Nat.lt_or_ge (w.elapsed + used) (p.settleTime * 1000) with hl | hl
        · exact (settling hs hl).1
        · exact (settled hs hl).1
      · obtain ⟨h1, h2, h3⟩ := gives _ _ hr (progress.trans (progressWindow_of_completed hs hl))
        simp only [Option.isSome_some, Bool.not_true, Bool.and_false, openWindow_of_rest] at h1 h3
        exact ⟨h3, h1, h2⟩
    · have hgaps : countGap p (decide (p.maxGap < tickDelta prev.tick x.tick)) w.gaps = none := countGap_of_over hg ha
      obtain ⟨h1, h2, h3⟩ := gives none none hr (by rw [windowAfter, hw, carryWindow_of_abandoned hgaps])
      simp only [Option.isSome_none, Bool.not_false, Bool.and_true, openWindow_of_rest] at h1 h3
      exact ⟨h2, h1, fun hc => by simp [h3, hc], fun hc => by simp [h3, hc]⟩
    · rw [hstep]
      exact captureStep_of_valid (by simpa only [phaseOf_ne_rest_iff, mul_neg_iff] using h)
    · rw [hstep]
      exact captureStep_of_invalid (by simpa only [phaseOf_ne_rest_iff, mul_neg_iff] using h)
  · intro charge discharge phase u
    have hu : u = _ := trackSample_of_first hprev
    rw [hwindow, hrun] at hu
    have carried : carryWindow p none x (phaseOf p x.current) 0 false = (none, none) := rfl
    rw [carried] at hu
    have hu1 : u.1 = trackerAfter p cells t x none (none, none) := by rw [hu]
    refine ⟨by rw [hu1]; rfl, by rw [hu1]; rfl, by rw [hu1]; rfl, by rw [hu], by rw [hu], by rw [hu], fun hc => ?_,
      fun _ hd => ?_, fun hc hd => ?_, fun old ho => ?_, fun ho => ?_⟩
    · rw [hu1]
      exact trackerAfter_of_charge none (phaseOf_of_charge hc)
    · rw [hu1]
      exact trackerAfter_of_discharge none (phaseOf_of_discharge hd)
    · obtain ⟨h1, h2⟩ := trackerAfter_of_rest (t := t) (cells := cells) none (none, none) (phaseOf_of_rest hc hd)
      rw [hu1, h1, h2, openWindow_of_rest]
      simp
    · rw [hu, ho]
      rfl
    · rw [hu, ho]
      rfl

end Sys2Proof.Machine
end

section
/-! SUPPORT. A sample within the hard limits: the figures its delivery writes and their handing on; the proof of O18. -/

namespace Sys2Proof.Machine

/-! ## The figures of a delivery (R49) -/

section
variable (points : List CurvePoint) (rated : Nat) (d : Delivery) (f : Figures)

theorem writeTmax_fields (v : Option Int) : writeTmax v f = { f with tmax := v.or f.tmax } := by
  cases v <;> rfl

theorem writeWindow_fields (w : Option WindowResult) :
    writeWindow w f = { f with sdr := (w.map computeSdr).or f.sdr } := by
  cases w <;> rfl

theorem writeStep_fields (c : Option StepCapture) :
    (writeStep points c f).cap = f.cap ∧ (writeStep points c f).soh = f.soh ∧ (writeStep points c f).sdr = f.sdr ∧
      (writeStep points c f).tmax = f.tmax := by
  cases c <;> exact ⟨rfl, rfl, rfl, rfl⟩

theorem writeRun_fields (r : Option CapacityRun) :
    (writeRun rated r f).steps = f.steps ∧ (writeRun rated r f).rdc = f.rdc ∧ (writeRun rated r f).sdr = f.sdr ∧
      (writeRun rated r f).tmax = f.tmax := by
  cases r <;> exact ⟨rfl, rfl, rfl, rfl⟩

theorem writeFigures_eq : writeFigures points rated d f =
    { writeStep points d.step (writeRun rated d.run f) with
      sdr := (d.window.map computeSdr).or f.sdr, tmax := d.tmax.or f.tmax } := by
  obtain ⟨-, -, hsdr, htmax⟩ := writeStep_fields points (writeRun rated d.run f) d.step
  obtain ⟨-, -, hsdr', htmax'⟩ := writeRun_fields rated f d.run
  rw [writeFigures, writeTmax_fields, writeWindow_fields, hsdr, htmax, hsdr', htmax']

theorem writeFigures_run {r : CapacityRun} (h : d.run = some r) :
    (writeFigures points rated d f).cap = some (computeCap r) ∧
      (writeFigures points rated d f).soh = some (computeSoh (computeCap r).value rated) := by
  obtain ⟨hcap, hsoh, -⟩ := writeStep_fields points (writeRun rated d.run f) d.step
  rw [h] at hcap hsoh
  rw [writeFigures_eq, h]
  exact ⟨hcap, hsoh⟩

theorem writeFigures_noRun (h : d.run = none) :
    (writeFigures points rated d f).cap = f.cap ∧ (writeFigures points rated d f).soh = f.soh := by
  obtain ⟨hcap, hsoh, -⟩ := writeStep_fields points (writeRun rated d.run f) d.step
  rw [h] at hcap hsoh
  rw [writeFigures_eq, h]
  exact ⟨hcap, hsoh⟩

theorem writeFigures_step {c : StepCapture} (h : d.step = some c) :
    (writeFigures points rated d f).steps = (f.steps ++ [stepResult points c]).drop (f.steps.length - 3) ∧
      (writeFigures points rated d f).rdc = rdcOf (writeFigures points rated d f).steps := by
  obtain ⟨hsteps, -⟩ := writeRun_fields rated f d.run
  rw [writeFigures_eq]
  simp only [h, writeStep, hsteps, appendStep, Nat.add_sub_add_right f.steps.length 1 3, and_self]

theorem writeFigures_noStep (h : d.step = none) :
    (writeFigures points rated d f).steps = f.steps ∧ (writeFigures points rated d f).rdc = f.rdc := by
  obtain ⟨hsteps, hrdc, -⟩ := writeRun_fields rated f d.run
  rw [writeFigures_eq]
  simp only [h, writeStep, hsteps, hrdc, and_self]

end

theorem writtenKinds_eq_nil_iff (d : Delivery) :
    writtenKinds d = [] ↔ d.run = none ∧ d.step = none ∧ d.window = none ∧ d.tmax = none := by
  simp [writtenKinds]

theorem mem_writtenKinds (d : Delivery) (k : FigureKind) : k ∈ writtenKinds d ↔
    ((k = .cap ∨ k = .soh) ∧ d.run ≠ none) ∨ ((k = .rdc ∨ k = .nstep) ∧ d.step ≠ none) ∨
      (k = .sdr ∧ d.window ≠ none) ∨ (k = .tmax ∧ d.tmax ≠ none) := by
  simp only [writtenKinds, List.mem_append, List.mem_ite_nil_right, List.mem_cons, List.not_mem_nil, or_false,
    Option.isSome_iff_ne_none, and_comm, or_assoc]

theorem writeFigures_of_nothing {points : List CurvePoint} {rated : Nat} {d : Delivery} {f : Figures}
    (h : writtenKinds d = []) : writeFigures points rated d f = f := by
  obtain ⟨h1, h2, h3, h4⟩ := (writtenKinds_eq_nil_iff d).1 h
  simp only [writeFigures, h1, h2, h3, h4]
  rfl

theorem figureSet_bit (kinds : List FigureKind) (j : Nat) (hj : j < 6) :
    (figureSet kinds).getLsbD j = true ↔ ∃ k ∈ kinds, k.code = j := by
  have h : (figureSet kinds).getLsbD j = _ :=
    getLsbD_foldl_setBits (fun _ : FigureKind => true) FigureKind.code kinds (0 : BitVec 6) j hj
  rw [h]
  simp

theorem figureSet_writtenKinds_bit (d : Delivery) (k : Fin 6) : (figureSet (writtenKinds d)).getLsbD k = true ↔
    (k.val ≤ 1 ∧ d.run ≠ none) ∨ ((k.val = 2 ∨ k.val = 5) ∧ d.step ≠ none) ∨
      (k.val = 3 ∧ d.window ≠ none) ∨ (k.val = 4 ∧ d.tmax ≠ none) := by
  rw [figureSet_bit _ _ k.isLt]
  constructor
  · rintro ⟨kind, hk, hc⟩
    rw [mem_writtenKinds] at hk
    rcases hk with ⟨rfl | rfl, h⟩ | ⟨rfl | rfl, h⟩ | ⟨rfl, h⟩ | ⟨rfl, h⟩ <;> simp [← hc, FigureKind.code, h]
  · have hmem := mem_writtenKinds d
    rintro (⟨hk, h⟩ | ⟨hk | hk, h⟩ | ⟨hk, h⟩ | ⟨hk, h⟩)
    · rcases Nat.le_one_iff_eq_zero_or_eq_one.1 hk with hk | hk <;> rw [hk]
      · exact ⟨.cap, (hmem _).2 (.inl ⟨.inl rfl, h⟩), rfl⟩
      · exact ⟨.soh, (hmem _).2 (.inl ⟨.inr rfl, h⟩), rfl⟩
    · exact ⟨.rdc, (hmem _).2 (.inr (.inl ⟨.inl rfl, h⟩)), hk.symm⟩
    · exact ⟨.nstep, (hmem _).2 (.inr (.inl ⟨.inr rfl, h⟩)), hk.symm⟩
    · exact ⟨.sdr, (hmem _).2 (.inr (.inr (.inl ⟨rfl, h⟩))), hk.symm⟩
    · exact ⟨.tmax, (hmem _).2 (.inr (.inr (.inr ⟨rfl, h⟩))), hk.symm⟩

/-! ## Handing figures on (R66) -/

theorem setSlot_setSlot (i : SlotNo) (v w : Slot) (s : State) : setSlot i v (setSlot i w s) = setSlot i v s := by
  have h : (s.slots.set i w).set i v = s.slots.set i v := Vector.ext fun j hj => by
    simp only [Vector.getElem_set]
    split <;> rfl
  rw [setSlot, setSlot, setSlot, h]

theorem updateSlot_setSlot (i : SlotNo) (f : ModuleRecord → ModuleRecord) (m : ModuleRecord) (s : State) :
    updateSlot i f (setSlot i (some m) s) = setSlot i (some (f m)) s := by
  rw [updateSlot, setSlot_slot, if_pos rfl, setSlot_setSlot]
  rfl

/-- What handing on does after the FIGURE report of the kinds (R66, R78, R111, R129). -/
def afterReport (i : SlotNo) (kinds : List FigureKind) (first : Bool) (reported : State) : State :=
  let evaluated := if first then reported else evaluateSlot i reported
  let reviewed := if kinds.contains .cap then reviewTest i evaluated else evaluated
  if kinds.contains .cap || kinds.contains .rdc then disturbForFigures i reviewed else reviewed

theorem handOn_setSlot (i : SlotNo) (kinds : List FigureKind) (first : Bool) (m : ModuleRecord) (s : State) :
    handOn i kinds first (setSlot i (some m) s) = afterReport i kinds first
      (requestReport (.figure i (figureSet kinds)) (setSlot i (some { m with restored := false }) s)) := by
  unfold handOn
  rw [updateSlot_setSlot]
  rfl

/-- The review test and the disturbing of a run leave the slots and the places. -/
theorem afterReport_keeps (i : SlotNo) (kinds : List FigureKind) (first : Bool) (s : State) :
    let evaluated := if first then s else evaluateSlot i s
    (afterReport i kinds first s).slots = evaluated.slots ∧ (afterReport i kinds first s).places = evaluated.places := by
  intro evaluated
  let reviewed := if kinds.contains .cap then reviewTest i evaluated else evaluated
  have hreviewed : reviewed.slots = evaluated.slots ∧ reviewed.places = evaluated.places := by
    simp only [reviewed]
    split
    · exact ⟨by rw [reviewTest_work i evaluated], reviewTest_places i evaluated⟩
    · exact ⟨rfl, rfl⟩
  have hafter : afterReport i kinds first s =
      if kinds.contains .cap || kinds.contains .rdc then disturbForFigures i reviewed else reviewed := rfl
  rw [hafter]
  split
  · rw [disturbForFigures_work i reviewed]
    exact hreviewed
  · exact hreviewed

theorem evaluateSlot_of_open {i : SlotNo} {s : State} (h : s.window ≠ none) : evaluateSlot i s = s := by
  unfold evaluateSlot
  split
  · rfl
  · exact absurd ‹_› h

theorem requestReport_window (r : Report) (s : State) : (requestReport r s).window = s.window := by
  rw [requestReport_work r s]

theorem requestReport_slot (r : Report) (s : State) (i : SlotNo) : (requestReport r s).slots[i] = s.slots[i] := by
  rw [(requestReport_keeps r s).1]

/-- What stays of the slot's record through the rest of handing on: all but grade, grade row and state, and those too
when the sample is the slot's first, or the window is open. -/
theorem afterReport_record (i : SlotNo) (kinds : List FigureKind) (first : Bool) (s : State) {m : ModuleRecord}
    (hm : s.slots[i] = some m) : ∃ g row st,
      (afterReport i kinds first s).slots[i] = some { m with grade := g, gradeRow := row, state := st } ∧
      (first = true → st = m.state ∧ g = m.grade) ∧
      (s.window ≠ none → g = m.grade ∧ (afterReport i kinds first s).places = s.places) := by
  obtain ⟨hslots, hplaces⟩ := afterReport_keeps i kinds first s
  have kept : (if first then s else evaluateSlot i s) = s → ∃ g row st,
      (afterReport i kinds first s).slots[i] = some { m with grade := g, gradeRow := row, state := st } ∧
      (first = true → st = m.state ∧ g = m.grade) ∧
      (s.window ≠ none → g = m.grade ∧ (afterReport i kinds first s).places = s.places) := fun h => by
    rw [h] at hslots hplaces
    exact ⟨m.grade, m.gradeRow, m.state, (congrArg (·[i]) hslots).trans hm, fun _ => ⟨rfl, rfl⟩, fun _ => ⟨rfl, hplaces⟩⟩
  cases hf : first with
  | true => exact hf ▸ kept (if_pos hf)
  | false =>
    by_cases hw : s.window = none
    · rw [hf, if_neg Bool.false_ne_true] at hslots
      have hrecord := congrArg (·[i]) hslots
      rcases (evaluateSlot_regraded i s).slots i with h | ⟨m', g, row, st, hm', h⟩
      · exact ⟨m.grade, m.gradeRow, m.state, (hrecord.trans h).trans hm, nofun, fun h => absurd hw h⟩
      · cases hm.symm.trans hm'
        exact ⟨g, row, st, hrecord.trans h, nofun, fun h => absurd hw h⟩
    · exact hf ▸ kept (by rw [evaluateSlot_of_open hw, ite_self])

theorem deliver_of_nothing {i : SlotNo} {d : Delivery} {first : Bool} {s : State} (h : writtenKinds d = []) :
    deliver i d first s = s := by
  unfold deliver
  split <;> simp_all

theorem deliver_of_something {i : SlotNo} {d : Delivery} {first : Bool} {s : State} {m : ModuleRecord}
    (h : writtenKinds d ≠ []) : deliver i d first (setSlot i (some m) s) =
      afterReport i (writtenKinds d) first (requestReport (.figure i (figureSet (writtenKinds d)))
        (setSlot i (some { m with
          figures := writeFigures (curveOf s.curves m.family) m.rated d m.figures, restored := false }) s)) := by
  have hm : (setSlot i (some m) s).slots[i] = some m := by rw [setSlot_slot, if_pos rfl]
  unfold deliver
  rw [hm]
  cases hk : writtenKinds d with
  | nil => exact absurd hk h
  | cons k ks =>
    simp only [setSlot_setSlot]
    exact handOn_setSlot i (k :: ks) first _ s

theorem afterReport_worked (i : SlotNo) (kinds : List FigureKind) (first : Bool) (s : State) :
    Worked i s (afterReport i kinds first s) :=
  ((Worked.ite (.refl i _) (evaluateSlot_worked i _)).trans (.ite (reviewTest_worked i _) (.refl i _))).trans
    (.ite (disturbForFigures_worked i _) (.refl i _))

/-- The slot's record after a delivery: the figures it writes, and nothing more when it writes none. -/
theorem deliver_record (i : SlotNo) (d : Delivery) (first : Bool) (m : ModuleRecord) (s : State) :
    ∃ g row st restored,
      (deliver i d first (setSlot i (some m) s)).slots[i] = some { m with
        figures := writeFigures (curveOf s.curves m.family) m.rated d m.figures
        grade := g, gradeRow := row, state := st, restored := restored } ∧
      (first = true → st = m.state ∧ g = m.grade) ∧
      (s.window ≠ none → g = m.grade ∧ (deliver i d first (setSlot i (some m) s)).places = s.places) ∧
      (writtenKinds d = [] → restored = m.restored ∧ g = m.grade ∧ row = m.gradeRow ∧ st = m.state) ∧
      (writtenKinds d ≠ [] → restored = false) := by
  by_cases hk : writtenKinds d = []
  · rw [deliver_of_nothing hk, writeFigures_of_nothing hk, setSlot_slot, if_pos rfl]
    exact ⟨m.grade, m.gradeRow, m.state, m.restored, rfl, fun _ => ⟨rfl, rfl⟩, fun _ => ⟨rfl, rfl⟩,
      fun _ => ⟨rfl, rfl, rfl, rfl⟩, fun h => absurd hk h⟩
  · rw [deliver_of_something hk]
    let reported := requestReport (.figure i (figureSet (writtenKinds d))) (setSlot i (some { m with
      figures := writeFigures (curveOf s.curves m.family) m.rated d m.figures, restored := false }) s)
    have hreported : reported.slots[i] = _ := requestReport_slot _ _ i
    rw [setSlot_slot, if_pos rfl] at hreported
    obtain ⟨g, row, st, hrec, hfirst, hopen⟩ := afterReport_record i (writtenKinds d) first reported hreported
    have hwindow : reported.window = s.window := requestReport_window _ _
    have hplaces : reported.places = s.places := (requestReport_keeps _ _).2.1
    exact ⟨g, row, st, false, hrec, hfirst, fun h => ⟨(hopen (hwindow ▸ h)).1, (hopen (hwindow ▸ h)).2.trans hplaces⟩,
      fun h => absurd h hk, fun _ => rfl⟩

theorem afterReport_writtenKinds (i : SlotNo) (d : Delivery) (first : Bool) (s : State) :
    let evaluated := if first then s else evaluateSlot i s
    let reviewed := if d.run = none then evaluated else reviewTest i evaluated
    afterReport i (writtenKinds d) first s =
      if d.run = none ∧ d.step = none then reviewed else disturbForFigures i reviewed := by
  intro evaluated reviewed
  have hcap : (writtenKinds d).contains .cap = true ↔ ¬ d.run = none := by
    rw [List.contains_iff_mem, mem_writtenKinds]
    simp
  have hrdc : ((writtenKinds d).contains .cap || (writtenKinds d).contains .rdc) = true ↔
      ¬ (d.run = none ∧ d.step = none) := by
    rw [Bool.or_eq_true, hcap, List.contains_iff_mem, mem_writtenKinds, not_and_or]
    simp
  unfold afterReport
  simp only [hcap, hrdc, ite_not]
  rfl

/-! ## An accepted sample (R30) -/

theorem trackSample_delivers_tmax (p : Profile) (cells : Nat) (tmax : Option Int) (t : Tracker) (x : ClampedSample) :
    (trackSample p cells tmax t x).2.tmax = risingTemperature tmax x.temperature := by
  cases h : t.previous with
  | none => rw [trackSample_of_first h]
  | some prev => rw [trackSample_of_previous h]

theorem risingTemperature_max (old t : Int) : (risingTemperature (some old) t).or (some old) = some (max old t) := by
  simp only [risingTemperature]
  split
  · next h => rw [Option.some_or, max_eq_right (Int.le_of_lt h)]
  · next h => rw [Option.none_or, max_eq_left (Int.not_lt.1 h)]

theorem runsAfter_eq (n : Nat) (d : Delivery) : runsAfter n d = if d.run = none then n else min (n + 1) 255 := by
  unfold runsAfter
  cases d.run <;> rfl

/-- Settles O18: the record is the tracked one with the figures of the delivery, and the rest is their handing on. -/
theorem acceptedSampleWorked : Obligations.AcceptedSampleWorked := by
  refine ⟨fun i x s m hm hq he hv hd => ?_, fun i s => ?_, fun i s r hr => ?_⟩
  · intro p hhigh hlow htemp d u quiet
    let tracker := (trackSample p m.cells m.figures.tmax m.tracker x).1
    let m1 := trackedRecord m tracker d
    have ha : accepted s m x = true := (accepted_iff s m x).2 ⟨hq, he, hv, hd⟩
    have hu : u = deliver i d (m.state == .admitted) (setSlot i (some m1) s) :=
      workSample_of_within hm ha (hardLimit_of_within hhigh hlow htemp)
    have hw := workSample_worked i x s
    obtain ⟨g, row, st, restored, hrec, hfirst, hopen, hquiet, hloud⟩ :=
      deliver_record i d (m.state == .admitted) m1 s
    rw [← hu] at hrec hopen
    have hkinds : writtenKinds d = [] ↔ quiet := writtenKinds_eq_nil_iff d
    let points := curveOf s.curves m.family
    have htmax : d.tmax = risingTemperature m.figures.tmax x.temperature := trackSample_delivers_tmax _ _ _ _ _
    have hfig := writeFigures_eq points m.rated d m.figures
    refine ⟨hw.work, hw.others, _, hrec, rfl, fun h => ?_, fun old h => ?_, fun h => ?_, runsAfter_eq _ d,
      fun r h => writeFigures_run points m.rated d m.figures h, writeFigures_noRun points m.rated d m.figures,
      fun c h => writeFigures_step points m.rated d m.figures h, writeFigures_noStep points m.rated d m.figures,
      fun w h => ?_, fun h => ?_, fun h => ?_, fun h => ?_, hopen⟩
    · obtain ⟨h1, h2⟩ := hfirst (by rw [h]; rfl)
      exact ⟨h1.trans (if_pos h), h2⟩
    · rw [h] at htmax
      refine (congrArg Figures.tmax hfig).trans ?_
      rw [htmax, h]
      exact risingTemperature_max old x.temperature
    · rw [h] at htmax
      refine (congrArg Figures.tmax hfig).trans ?_
      rw [htmax]
      rfl
    · refine (congrArg Figures.sdr hfig).trans ?_
      rw [h]
      rfl
    · refine (congrArg Figures.sdr hfig).trans ?_
      rw [h]
      rfl
    · obtain ⟨h1, h2, h3, h4⟩ := hquiet (hkinds.2 h)
      refine ⟨h1, h2, ?_⟩
      rw [hu, deliver_of_nothing (hkinds.2 h), h1, h2, h3, h4, writeFigures_of_nothing (hkinds.2 h)]
      rfl
    · have hk := mt hkinds.1 h
      have hloud' := hu.trans (deliver_of_something hk)
      have hflag : u.causeFlags.getLsbD 1 = true := by
        rw [hloud']
        exact (afterReport_worked i _ _ _).reported.flags 1 (requestReport_flag (.figure i _) _ nofun)
      refine ⟨hloud hk, hflag, figureSet (writtenKinds d), figureSet_writtenKinds_bit d, ?_⟩
      rw [hloud', afterReport_writtenKinds]
      simp only [beq_iff_eq]
      rfl
  · refine ⟨fun string pos h hf => reviewTest_of_fails h ((reviewFails_iff s string pos).2 hf),
      fun h => reviewTest_of_holds fun string pos hs => mt (reviewFails_iff s string pos).1 (h string pos hs)⟩
  · exact ⟨fun h => disturbForFigures_of_differs hr ((differsFromEntry_iff hr i).2 h),
      fun h => disturbForFigures_of_equal (mt (differsFromEntry_iff hr i).1 h)⟩

end Sys2Proof.Machine
end

section
/-! SUPPORT. The figures as rounded and saturated quotients, and the evaluation of figures against the grade table row by
row; the proofs of O23 and O24. -/

namespace Sys2Proof.Machine

/-! ## Saturated quotients (R51 to R64) -/

theorem saturate_of_le {limit v : Nat} (h : v ≤ limit) : saturate limit v = { value := v, saturated := false } :=
  if_neg (Nat.not_lt.2 h)

theorem saturate_of_lt {limit v : Nat} (h : limit < v) : saturate limit v = { value := limit, saturated := true } :=
  if_pos h

/-- The floor of a quotient below a limit stays below it, and one at or above it reaches it. -/
theorem saturate_div {limit n d : Nat} (hd : 0 < d) :
    (n < (limit + 1) * d → (saturate limit (n / d)).saturated = false ∧
      (saturate limit (n / d)).value * d ≤ n ∧ n < ((saturate limit (n / d)).value + 1) * d) ∧
    ((limit + 1) * d ≤ n → saturate limit (n / d) = { value := limit, saturated := true }) := by
  refine ⟨fun h => ?_, fun h => saturate_of_lt ((Nat.le_div_iff_mul_le hd).2 h)⟩
  rw [saturate_of_le (Nat.lt_succ_iff.1 ((Nat.div_lt_iff_lt_mul hd).2 h))]
  exact ⟨rfl, Nat.div_mul_le_self n d, Nat.lt_mul_of_div_lt (Nat.lt_succ_self _) hd⟩

/-- A quotient rounded half up and saturated: the nearest integer below the limit, and the limit above it. -/
theorem saturate_roundHalfUp {limit n d : Nat} (hd : 0 < d) :
    (2 * n + d < 2 * d * (limit + 1) → (saturate limit (roundHalfUp n d)).saturated = false ∧
      2 * d * (saturate limit (roundHalfUp n d)).value ≤ 2 * n + d ∧
      2 * n + d < 2 * d * ((saturate limit (roundHalfUp n d)).value + 1)) ∧
    (2 * d * (limit + 1) ≤ 2 * n + d → saturate limit (roundHalfUp n d) = { value := limit, saturated := true }) := by
  have hd2 : 0 < 2 * d := Nat.mul_pos two_pos hd
  refine ⟨fun h => ?_, fun h => saturate_of_lt ((Nat.le_div_iff_mul_le hd2).2 (by rw [Nat.mul_comm]; exact h))⟩
  have hle : roundHalfUp n d ≤ limit := Nat.lt_succ_iff.1 (Nat.div_lt_of_lt_mul h)
  rw [saturate_of_le hle]
  exact ⟨rfl, roundHalfUp_nearest n hd⟩

theorem computeSdr_of_drop {w : WindowResult} (h : w.endVoltage < w.startVoltage) :
    computeSdr w = saturate 65535 (roundHalfUp ((w.startVoltage - w.endVoltage) * 360000000) w.elapsed) :=
  if_neg (Nat.not_le.2 h)

/-- Settles O23: each figure is `saturate` of a floor or of a rounding half up. -/
theorem figureQuotients : Obligations.FigureQuotients := by
  refine ⟨fun r => ?_, fun cap rated h => saturate_div h, fun c h => ?_, fun points c => ?_, fun steps h => ?_,
    fun w h => if_pos h, fun w hv he => ?_⟩
  · obtain ⟨hin, hover⟩ := saturate_div (limit := 65535) (n := r.accumulator.natAbs) (d := 72000000) (by omega)
    refine ⟨rfl, hin, fun h => ?_⟩
    have hs := hover h
    exact ⟨congrArg MarkedFigure.saturated hs, congrArg MarkedFigure.value hs⟩
  · obtain ⟨h1, h2⟩ := roundHalfUp_nearest (c.deltaV.natAbs * 100000) (Int.natAbs_pos.2 h)
    rw [measuredResistance, Nat.mul_right_comm 2 _ c.deltaI.natAbs, Nat.mul_right_comm 2 _ c.deltaI.natAbs]
    exact ⟨h1, h2⟩
  · exact saturate_roundHalfUp (limit := 65535) (d := 1000) (by omega)
  · have hlen : 0 < steps.length := List.length_pos_iff.2 h
    obtain ⟨h1, h2⟩ := roundHalfUp_nearest (steps.map (·.value)).sum hlen
    refine ⟨_, if_neg (by simpa using h), ?_, ?_, List.any_eq_true⟩
    · rw [Nat.mul_right_comm]
      exact h1
    · rw [Nat.mul_right_comm]
      exact h2
  · obtain ⟨hin, hover⟩ := saturate_roundHalfUp (limit := 65535) (n := (w.startVoltage - w.endVoltage) * 360000000) he
    simp only [Nat.mul_right_comm 2 _ w.elapsed, computeSdr_of_drop hv]
    exact ⟨hin, hover⟩

/-! ## Criteria (R71, R72) -/

/-- A criterion that does not defer is true, as a Boolean. -/
def criterionHolds (f : Figures) (c : Criterion) : Bool :=
  match figureValue f c.figure with
  | some v => c.predicate.holds v c.threshold
  | none => c.predicate.unknown

/-- The figure of a criterion is absent. -/
def figureAbsent (f : Figures) (c : Criterion) : Bool := (figureValue f c.figure).isNone

theorem criterionTrue_iff (f : Figures) (c : Criterion) : criterionTrue f c ↔ criterionHolds f c = true := by
  unfold criterionTrue criterionHolds
  cases figureValue f c.figure <;> rfl

theorem rowTrue_iff (f : Figures) (r : GradeRow) : rowTrue f r ↔ r.criteria.all (criterionHolds f) = true := by
  simp only [rowTrue, criterionTrue_iff, List.all_eq_true]

theorem criterionTrue_of_present {f : Figures} {c : Criterion} {v : Int} (h : figureValue f c.figure = some v) :
    criterionTrue f c ↔ c.predicate.holds v c.threshold = true := by
  simp only [criterionTrue, h]

theorem evaluateCriteria_of_decided {f : Figures} {cs : List Criterion} (h : ∀ c ∈ cs, ¬ criterionDefers f c)
    (place : Nat) (allTrue met : Bool) : evaluateCriteria f cs place allTrue met =
      .inr (allTrue && cs.all (criterionHolds f), met || cs.any (figureAbsent f)) := by
  induction cs generalizing place allTrue met with
  | nil => simp [evaluateCriteria]
  | cons c cs ih =>
    have ih' := ih fun c' hc' => h c' (List.mem_cons_of_mem c hc')
    have hc := h c List.mem_cons_self
    cases hv : figureValue f c.figure with
    | some v => simp [evaluateCriteria, hv, ih', criterionHolds, figureAbsent, Bool.and_assoc]
    | none =>
      have hs : c.strict = false := by
        rw [← Bool.not_eq_true]
        exact fun hs => hc ⟨hs, hv⟩
      simp [evaluateCriteria, hv, hs, ih', criterionHolds, figureAbsent, Bool.and_assoc]

theorem evaluateCriteria_of_deferring {f : Figures} {pre post : List Criterion} {c : Criterion}
    (h : ∀ c' ∈ pre, ¬ criterionDefers f c') (hc : criterionDefers f c) (place : Nat) (allTrue met : Bool) :
    evaluateCriteria f (pre ++ c :: post) place allTrue met = .inl (place + pre.length) := by
  induction pre generalizing place allTrue met with
  | nil =>
    obtain ⟨hs, hv⟩ := hc
    simp [evaluateCriteria, hv, hs]
  | cons c' pre ih =>
    have ih' := ih fun c' hc' => h c' (List.mem_cons_of_mem _ hc')
    have hc' := h c' List.mem_cons_self
    have hlen : place + 1 + pre.length = place + (c' :: pre).length := by simp only [List.length_cons]; omega
    cases hv : figureValue f c'.figure with
    | some v => simp only [List.cons_append, evaluateCriteria, hv, ih', hlen]
    | none =>
      have hs : ¬ c'.strict = true := fun hs => hc' ⟨hs, hv⟩
      simp only [List.cons_append, evaluateCriteria, hv, if_neg hs, ih', hlen]

/-! ## Rows (R73 to R75) -/

section
variable {table : GradeTable} {family : Family} {f : Figures}

theorem not_rowDefers_iff (r : GradeRow) : ¬ rowDefers f r ↔ ∀ c ∈ r.criteria, ¬ criterionDefers f c := by
  simp only [rowDefers, not_exists, not_and]

theorem evaluateRows_of_true {i : Fin 16} (ha : applicable table[i] family = true) (ht : rowTrue f table[i])
    (hd : ¬ rowDefers f table[i]) (rest : List (Fin 16)) (any met : Bool) :
    evaluateRows table family f (i :: rest) any met = .graded table[i].code (some i) := by
  rw [evaluateRows, if_pos ha, evaluateCriteria_of_decided ((not_rowDefers_iff _).1 hd), (rowTrue_iff f _).1 ht]
  rfl

theorem evaluateRows_of_deferring {i : Fin 16} {place : Nat} {c : Criterion}
    (ha : applicable table[i] family = true) (hc : table[i].criteria[place]? = some c) (hd : criterionDefers f c)
    (hfirst : ∀ k c', k < place → table[i].criteria[k]? = some c' → ¬ criterionDefers f c')
    (rest : List (Fin 16)) (any met : Bool) :
    evaluateRows table family f (i :: rest) any met = .deferred i place := by
  obtain ⟨hlt, hget⟩ := List.getElem?_eq_some_iff.1 hc
  have hsplit : table[i].criteria = table[i].criteria.take place ++ c :: table[i].criteria.drop (place + 1) := by
    rw [← hget, List.getElem_cons_drop, List.take_append_drop]
  have hpre : ∀ c' ∈ table[i].criteria.take place, ¬ criterionDefers f c' := fun c' hc' => by
    obtain ⟨k, hk, hk'⟩ := List.getElem_of_mem hc'
    rw [List.length_take] at hk
    rw [List.getElem_take] at hk'
    exact hfirst k c' (by omega) (List.getElem?_eq_some_iff.2 ⟨by omega, hk'⟩)
  have hcriteria : evaluateCriteria f table[i].criteria 0 true false = .inl place := by
    rw [hsplit, evaluateCriteria_of_deferring hpre hd, List.length_take, min_eq_left (Nat.le_of_lt hlt), Nat.zero_add]
  rw [evaluateRows, if_pos ha, hcriteria]

theorem evaluateRows_of_passed {i : Fin 16} (h : rowPassed f family table[i]) (rest : List (Fin 16)) (any met : Bool) :
    evaluateRows table family f (i :: rest) any met = evaluateRows table family f rest
      (any || applicable table[i] family)
      (met || applicable table[i] family && table[i].criteria.any (figureAbsent f)) := by
  cases ha : applicable table[i] family with
  | false => rw [evaluateRows, if_neg (by rw [ha]; exact Bool.false_ne_true)]; simp
  | true =>
    obtain ⟨ht, hd⟩ := h ha
    have hall : table[i].criteria.all (criterionHolds f) = false := Bool.eq_false_iff.2 (mt (rowTrue_iff f _).2 ht)
    rw [evaluateRows, if_pos ha, evaluateCriteria_of_decided ((not_rowDefers_iff _).1 hd), hall]
    simp

theorem evaluateRows_skip {pre : List (Fin 16)} (h : ∀ j ∈ pre, rowPassed f family table[j]) (rest : List (Fin 16))
    (any met : Bool) : evaluateRows table family f (pre ++ rest) any met = evaluateRows table family f rest
      (any || pre.any fun j => applicable table[j] family)
      (met || pre.any fun j => applicable table[j] family && table[j].criteria.any (figureAbsent f)) := by
  induction pre generalizing any met with
  | nil => simp
  | cons j pre ih =>
    rw [List.cons_append, evaluateRows_of_passed (h j List.mem_cons_self),
      ih fun k hk => h k (List.mem_cons_of_mem j hk), List.any_cons, List.any_cons, Bool.or_assoc, Bool.or_assoc]

theorem finRange_split (i : Fin 16) : ∃ pre post, List.finRange 16 = pre ++ i :: post ∧ ∀ j ∈ pre, j < i := by
  obtain ⟨pre, post, h⟩ := List.append_of_mem (List.mem_finRange i)
  have hlt := List.pairwise_lt_finRange 16
  rw [h, List.pairwise_append] at hlt
  exact ⟨pre, post, h, fun j hj => hlt.2.2 j hj i List.mem_cons_self⟩

theorem evaluate_of_all_passed (h : ∀ j : Fin 16, rowPassed f family table[j]) :
    evaluate table family f =
      if (List.finRange 16).any (fun j => applicable table[j] family) &&
          !(List.finRange 16).any (fun j => applicable table[j] family && table[j].criteria.any (figureAbsent f))
        then .graded 15 none else .graded 0 none := by
  have hskip := evaluateRows_skip (pre := List.finRange 16) (fun j _ => h j) [] false false
  rw [List.append_nil] at hskip
  rw [evaluate, hskip, evaluateRows]
  simp only [Bool.false_or]

theorem absentIn_iff (cs : List Criterion) :
    cs.any (figureAbsent f) = true ↔ ∃ c ∈ cs, figureValue f c.figure = none := by
  simp only [List.any_eq_true, figureAbsent, Option.isNone_iff_eq_none]

end

/-- Settles O24: the rows before the deciding one are skipped, and what they leave is whether one applied and whether a
figure of one was absent. -/
theorem evaluationByRows : Obligations.EvaluationByRows := by
  refine ⟨fun table family f i ha ht hd hpassed => ?_, fun table family f => ⟨fun i place c ha hpassed hc hd hfirst => ?_,
    fun hpassed => ⟨fun happ hpresent => ?_, fun h => ?_⟩⟩, fun r family => ?_, fun f c => ⟨fun v hv => ?_, fun hv => ?_⟩,
    fun f => ⟨rfl, rfl, rfl, rfl, rfl, rfl⟩⟩
  · obtain ⟨pre, post, hsplit, hlt⟩ := finRange_split i
    rw [evaluate, hsplit, evaluateRows_skip fun j hj => hpassed j (hlt j hj), evaluateRows_of_true ha ht hd]
  · obtain ⟨pre, post, hsplit, hlt⟩ := finRange_split i
    rw [evaluate, hsplit, evaluateRows_skip fun j hj => hpassed j (hlt j hj), evaluateRows_of_deferring ha hc hd hfirst]
  · obtain ⟨i, hi⟩ := happ
    rw [evaluate_of_all_passed hpassed, if_pos]
    rw [Bool.and_eq_true, Bool.not_eq_true', ← Bool.not_eq_true, List.any_eq_true, List.any_eq_true]
    refine ⟨⟨i, List.mem_finRange i, hi⟩, fun ⟨j, _, hj⟩ => ?_⟩
    rw [Bool.and_eq_true, absentIn_iff] at hj
    obtain ⟨hj, c, hc, hv⟩ := hj
    exact hpresent j hj c hc hv
  · rw [evaluate_of_all_passed hpassed, if_neg]
    rw [Bool.and_eq_true, Bool.not_eq_true', ← Bool.not_eq_true, List.any_eq_true, List.any_eq_true]
    rintro ⟨⟨i, _, hi⟩, hnone⟩
    rcases h with h | ⟨j, hj, hc⟩
    · exact Bool.false_ne_true ((h i).symm.trans hi)
    · exact hnone ⟨j, List.mem_finRange j, by rw [Bool.and_eq_true, absentIn_iff]; exact ⟨hj, hc⟩⟩
  · rw [applicable, Bool.and_eq_true]
  · rw [criterionTrue_of_present hv, Predicate.holds]
    refine ⟨fun h => ?_, fun h => ?_, fun h => ?_⟩
    · rw [if_pos h]
    · rw [if_neg (by omega), if_pos h]
    · rw [if_neg (by omega), if_neg (by omega)]
  · simp only [criterionTrue, hv]

end Sys2Proof.Machine
end

section
/-! SUPPORT. The eligibility rule and the effects of an evaluation; the proof of O25. -/

namespace Sys2Proof.Machine

/-! ## The eligibility rule (R110) -/

theorem eligibleIn_some (mask : BitVec 16) (m : ModuleRecord) :
    eligibleIn mask (some m) = true ↔ m.state = .graded ∧ mask.getLsbD m.grade = true := by
  rw [eligibleIn, Bool.and_eq_true, beq_iff_eq]

theorem applyEligibility_of_unplaced {i : SlotNo} {s : State} (h : placeOf s i = none) : applyEligibility i s = s := by
  simp only [applyEligibility, h]

section
variable {i : SlotNo} {s : State} {q : PlaceNo} {string : StringNo} {pos : Nat}

theorem applyEligibility_of_eligible (hq : placeOf s i = some q) (ho : ownerOf s.bank q = some (string, pos))
    (he : eligibleIn s.bank[string].gradeMask s.slots[i] = true) : applyEligibility i s = s := by
  simp only [applyEligibility, hq, ho, he, if_true]

theorem applyEligibility_of_fixed (hq : placeOf s i = some q) (ho : ownerOf s.bank q = some (string, pos))
    (hf : s.places[q].fixed = true) : applyEligibility i s = s := by
  simp only [applyEligibility, hq, ho, leavePlace_of_fixed hq hf, ite_self]

theorem applyEligibility_of_ineligible (hq : placeOf s i = some q) (ho : ownerOf s.bank q = some (string, pos))
    (hf : s.places[q].fixed = false) (he : ¬ eligibleIn s.bank[string].gradeMask s.slots[i] = true) :
    applyEligibility i s = emptyPosition string pos s := by
  simp only [applyEligibility, hq, ho, if_neg he, leavePlace_of_owned hq hf ho]

end

/-! ## The effects of an evaluation (R74, R76, R80, R81) -/

/-- A report request is made of the report queue, the cause flags and the counters alone. -/
theorem requestReport_setSlot (r : Report) (i : SlotNo) (v : Slot) (s : State) :
    requestReport r (setSlot i v s) = { s with
      slots := s.slots.set i v
      reports := (requestReport r s).reports
      causeFlags := (requestReport r s).causeFlags
      counters := (requestReport r s).counters } := by
  unfold requestReport placeReport setSlot
  dsimp only
  split_ifs <;> rfl

section
variable {i : SlotNo} {s : State} {m : ModuleRecord}

theorem evaluateSlot_of_rack {g : Nat} {row : Option (Fin 16)} (hw : s.window = none) (hm : s.slots[i] = some m)
    (hs : m.state = .testing ∨ m.state = .graded) (he : evaluate s.rows m.family m.figures = .graded g row) :
    evaluateSlot i s = gradeRackSlot i m g row s := by
  simp only [evaluateSlot, hw, evaluateSlotNow, hm]
  rcases hs with h | h <;> simp only [h, he]

theorem evaluateSlot_of_deferred {row : Fin 16} {place : Nat} (hw : s.window = none) (hm : s.slots[i] = some m)
    (hs : m.state = .testing ∨ m.state = .graded ∨ ∃ ig drift, m.state = .installed ig drift)
    (he : evaluate s.rows m.family m.figures = .deferred row place) :
    evaluateSlot i s = requestReport (.strict i row place) s := by
  simp only [evaluateSlot, hw, evaluateSlotNow, hm]
  rcases hs with h | h | ⟨ig, drift, h⟩ <;> simp only [h, he]

theorem evaluateSlot_of_installed {ig : Nat} {drift : Bool} {g : Nat} {row : Option (Fin 16)} (hw : s.window = none)
    (hm : s.slots[i] = some m) (hs : m.state = .installed ig drift)
    (he : evaluate s.rows m.family m.figures = .graded g row) :
    evaluateSlot i s = gradeInstalledSlot i m ig drift g row s := by
  simp only [evaluateSlot, hw, evaluateSlotNow, hm, hs, he]

end

/-- The state of a changed grade after its GRADE report, before the eligibility rule (R80). -/
def regradedState (i : SlotNo) (m : ModuleRecord) (g : Nat) (row : Option (Fin 16)) (s : State) : State :=
  { s with
    slots := s.slots.set i (some { m with grade := g, gradeRow := row, state := stateOfGrade g })
    reports := (requestReport (.grade i m.grade g row) s).reports
    causeFlags := (requestReport (.grade i m.grade g row) s).causeFlags
    counters := (requestReport (.grade i m.grade g row) s).counters }

theorem gradeRackSlot_of_changed {i : SlotNo} {m : ModuleRecord} {g : Nat} {row : Option (Fin 16)} {s : State}
    (h : g ≠ m.grade) :
    gradeRackSlot i m g row s = disturbFor i (applyEligibility i (regradedState i m g row s)) := by
  rw [gradeRackSlot, if_neg h, requestReport_setSlot]
  rfl

theorem regradedState_eligible (i : SlotNo) (m : ModuleRecord) (g : Nat) (row : Option (Fin 16)) (s : State)
    (mask : BitVec 16) : eligibleIn mask (regradedState i m g row s).slots[i] = true ↔ g ≠ 0 ∧ mask.getLsbD g = true := by
  have hslot : (regradedState i m g row s).slots[i] =
      some { m with grade := g, gradeRow := row, state := stateOfGrade g } := Vector.getElem_set_self _
  rw [hslot, eligibleIn_some, stateOfGrade]
  by_cases h : g = 0 <;> simp [h]

/-- Settles O25: a changed grade is written, reported, tried by the eligibility rule and disturbs the run. -/
theorem evaluationEffects : Obligations.EvaluationEffects := by
  refine ⟨fun i s => ⟨evaluateSlot_of_open, fun m hw hm hs => ⟨fun row place he => ?_, fun row he => ?_,
    fun g row he hg => ?_⟩⟩, fun i s m ig drift row place hw hm hs he => ?_,
    fun i s m ig drift g row hw hm hs he => ⟨fun hg => ?_, fun hg => ?_⟩⟩
  · exact evaluateSlot_of_deferred hw hm (by rcases hs with h | h <;> simp [h]) he
  · rw [evaluateSlot_of_rack hw hm hs he, gradeRackSlot, if_pos rfl]
    rfl
  · intro u told
    let a := regradedState i m g row s
    have hu : u = disturbFor i (applyEligibility i a) :=
      (evaluateSlot_of_rack hw hm hs he).trans (gradeRackSlot_of_changed hg)
    have hbank : BankWork a (applyEligibility i a) := applyEligibility_work i a
    have hrun : RunWork (applyEligibility i a) u := hu ▸ disturbFor_work i _
    have huf : u = { s with
        slots := a.slots
        places := (applyEligibility i a).places
        records := (applyEligibility i a).records
        reports := told.reports
        causeFlags := told.causeFlags
        counters := told.counters
        run := u.run } := by
      rw [hrun, hbank]
      rfl
    have hplaces : u.places = (applyEligibility i a).places := by rw [huf]
    have hrecords : u.records = (applyEligibility i a).records := by rw [huf]
    have kept : applyEligibility i a = a → u.places = s.places ∧ u.records = s.records := fun h =>
      ⟨hplaces.trans (by rw [h]; rfl), hrecords.trans (by rw [h]; rfl)⟩
    have hurun : u.run = s.run.map fun r => { r with disturbed := r.disturbed || hasUnstruckEntry s i } := by
      have h : (applyEligibility i a).run = s.run := by rw [hbank]; rfl
      rw [hu, disturbFor_run, h, hasUnstruckEntry_congr h]
    refine ⟨by rw [huf]; rfl, by rw [huf], by rw [huf], by rw [huf], by rw [huf],
      fun q string pos hq ho hf hg => ?_, fun q string pos hq ho hg hmask => ?_, fun hq => ?_,
      fun q string pos hq ho hf => ?_, fun hr => ?_, fun r hr => ?_⟩
    · have hinel : ¬ eligibleIn a.bank[string].gradeMask a.slots[i] = true := by
        rw [regradedState_eligible]
        rintro ⟨h, hmask⟩
        exact hg.elim h fun hb => Bool.false_ne_true (hb.symm.trans hmask)
      have hleft : applyEligibility i a = emptyPosition string pos a :=
        applyEligibility_of_ineligible (s := a) hq ho hf hinel
      refine ⟨?_, (emptyPosition_left string pos a).congr rfl rfl rfl (hplaces.trans (by rw [hleft]))
        (hrecords.trans (by rw [hleft]))⟩
      have hq : q ∈ a.bank[string].placesOf pos := (ownerOf_owns ho).2.2
      rw [hplaces, hleft, emptyPosition_place, if_pos hq]
    · exact kept (applyEligibility_of_eligible (s := a) hq ho ((regradedState_eligible i m g row s _).2 ⟨hg, hmask⟩))
    · exact kept (applyEligibility_of_unplaced (s := a) hq)
    · exact kept (applyEligibility_of_fixed (s := a) hq ho hf)
    · rw [hurun, hr]
      rfl
    · rw [hurun, hr]
      rfl
  · exact evaluateSlot_of_deferred hw hm (.inr (.inr ⟨ig, drift, hs⟩)) he
  · rw [evaluateSlot_of_installed hw hm hs he, gradeInstalledSlot, if_pos hg]
    rfl
  · intro t
    have hmark : (g != ig) = decide (g ≠ ig) := by rw [Bool.eq_iff_iff, bne_iff_ne, decide_eq_true_iff]
    have hu : evaluateSlot i s =
        if decide (g ≠ ig) = drift then t else requestReport (.drift i ig g (decide (g ≠ ig))) t := by
      rw [evaluateSlot_of_installed hw hm hs he, gradeInstalledSlot, if_neg hg, hmark]
      rfl
    exact ⟨fun h => hu.trans (if_pos h), fun h => hu.trans (if_neg h)⟩

end Sys2Proof.Machine
end

section
/-! SUPPORT. The answer of a directive by its rule, and the directives of one mark, of the mode, of the status, of the edit
window and of the run; the proofs of O31, O32, O40 and O45. -/

namespace Sys2Proof.Machine

section
variable {tag : Byte} {code : Nat} {params : List Byte} {s t : State} {rule : State → Reply State}

/-! ## The answer of a directive -/

/-- What the taking of a directive changes: the queue or the receiving of the frame, and the two marks (R151, R156, R158). -/
theorem Taken.eq_taken {d : DirectiveFrame} (h : Taken d s t) : ∃ queue count receiving, t = { s with
    directiveQueue := queue, patternCount := count, upReceiving := receiving, fieldMask := none,
    purgeEnable := false } :=
  ⟨_, _, _, h.fields⟩

theorem runDirective_refused {b : Bool} {o : AnswerOutcome} (h : Heard tag code params s t)
    (hl : ∀ n, parameterLength code = some (some n) → params.length = n) (hr : rule t = refuse o t) :
    runDirective tag code params b rule s = answered tag code o [] t := by
  rw [runDirective_heard b rule h hl, hr]
  rfl

theorem runDirective_accepted {b : Bool} {u : State} (h : Heard tag code params s t)
    (hl : ∀ n, parameterLength code = some (some n) → params.length = n) (hr : rule t = accept u) :
    runDirective tag code params b rule s = answered tag code .done [] u := by
  rw [runDirective_heard b rule h hl, hr]
  rfl

theorem runDirective_told {b : Bool} {data : List Byte} {u : State} (h : Heard tag code params s t)
    (hl : ∀ n, parameterLength code = some (some n) → params.length = n)
    (hr : rule t = { outcome := .done, data := data, state := u }) :
    runDirective tag code params b rule s = answered tag code .done data u := by
  rw [runDirective_heard b rule h hl, hr]

theorem length_nil_of {n : Nat} (h : parameterLength code = some (some 0)) (hn : parameterLength code = some (some n)) :
    ([] : List Byte).length = n := by
  rw [h] at hn
  cases hn
  rfl

theorem checkDirective_of_anyMode (rule : State → Reply State)
    (hl : ∀ n, parameterLength code = some (some n) → params.length = n) :
    checkDirective code params true rule t = rule t := by
  rw [checkDirective, if_neg fun h => Bool.noConfusion h.2]
  split
  · rw [if_pos (hl _ ‹_›)]
  · rfl

/-- A directive that BYPASS does not stop is answered by its rule in either mode (R152, check 3). -/
theorem runDirective_anyMode {data : List Byte} {u : State}
    (h : Taken { tag := tag, payload := BitVec.ofNat 8 code :: params } s t)
    (hl : ∀ n, parameterLength code = some (some n) → params.length = n)
    (hr : rule t = { outcome := .done, data := data, state := u }) :
    runDirective tag code params true rule s = answered tag code .done data u := by
  rw [runDirective_taken true rule h, checkDirective_of_anyMode rule hl, hr]
  rfl

end

/-- Settles O32: each rule sets one mark, or the mode. -/
theorem markAndModeDirectives : Obligations.MarkAndModeDirectives := by
  refine ⟨fun tag s t => ⟨fun h => ?_, fun h hs => ?_, fun h hs => ?_, fun h => ?_, fun h he => ?_⟩,
    fun tag params s t => ⟨fun h hl => ?_, fun h => ?_, fun h => ?_, fun h => ?_⟩⟩
  · exact congrArg Host.Outcome.next (runDirective_accepted h (fun _ => length_nil_of rfl) rfl)
  · obtain ⟨q, n, r, rfl⟩ := h.1.eq_taken
    have hfree : ¬ s.storeWork.isSome = true := by simp [hs]
    exact congrArg Host.Outcome.next (runDirective_accepted h (fun _ => length_nil_of rfl) (if_neg hfree))
  · obtain ⟨q, n, r, rfl⟩ := h.1.eq_taken
    have hbusy : s.storeWork.isSome = true := Option.isSome_iff_ne_none.2 hs
    exact congrArg Host.Outcome.next (runDirective_refused h (fun _ => length_nil_of rfl) (if_pos hbusy))
  · have hactive : ¬ t.engine = .bypass := by rw [h.active]; nofun
    exact congrArg Host.Outcome.next (runDirective_refused h (fun _ => length_nil_of rfl) (if_neg hactive))
  · obtain ⟨q, n, r, rfl⟩ := h.eq_taken
    exact ⟨Vector.ofFn fun k => { s.nodes[k] with lastArrival := none },
      congrArg Host.Outcome.next (runDirective_anyMode h (fun _ => length_nil_of rfl) (if_pos he)),
      fun k => Vector.getElem_ofFn _⟩
  · exact congrArg Host.Outcome.next (runDirective_accepted h (by rintro _ ⟨⟩; exact hl) rfl)
  · exact congrArg Host.Outcome.next (runDirective_accepted h (fun _ => length_nil_of rfl) rfl)
  · exact congrArg Host.Outcome.next (runDirective_accepted h (fun _ => length_nil_of rfl) rfl)
  · exact congrArg Host.Outcome.next (runDirective_accepted h (fun _ => length_nil_of rfl) rfl)

/-! ## Status (R163, R165) -/

theorem setAt_bit (bs : List Byte) (i k : Nat) (hk : k < 16) :
    (setAt bs i).getLsbD k = (unsignedAt bs i 2).testBit k := by
  rw [setAt, BitVec.getLsbD_ofNat, decide_eq_true hk, Bool.true_and]

/-- Settles O31: the flags and counters that are named go, and the catch-up is what the new mask enables of the rest. -/
theorem statusClearAndReportMask : Obligations.StatusClearAndReportMask := by
  refine fun tag params s t => ⟨fun h hl => ?_, fun h hl => ?_⟩
  · obtain ⟨q, n, r, rfl⟩ := h.1.eq_taken
    refine ⟨s.causeFlags &&& ~~~((setAt params 0).truncate 10), clearCounters (params.getD 2 0) s.counters,
      congrArg Host.Outcome.next (runDirective_accepted h (by rintro _ ⟨⟩; exact hl) rfl), fun k => ?_,
      rfl, rfl, rfl, rfl, rfl, rfl⟩
    have hk := k.isLt
    simp only [BitVec.getLsbD_and, BitVec.getLsbD_not, BitVec.truncate_eq_setWidth, BitVec.getLsbD_setWidth, hk,
      decide_true, Bool.true_and, setAt_bit params 0 k (by omega)]
  · obtain ⟨q, n, r, rfl⟩ := h.1.eq_taken
    let mask : BitVec 8 := (setAt params 0).truncate 8
    let caught := newlyEnabledFlagged s.reportMask mask s.causeFlags
    have hmask : ∀ k : Fin 8, mask.getLsbD k = (unsignedAt params 0 2).testBit k := fun k => by
      have hk := k.isLt
      simp only [mask, BitVec.truncate_eq_setWidth, BitVec.getLsbD_setWidth, hk, decide_true, Bool.true_and,
        setAt_bit params 0 k (by omega)]
    refine ⟨mask, caught, hmask, fun k => ?_, fun hc => ?_, fun hc => ?_⟩
    · have hk := k.isLt
      simp only [caught, newlyEnabledFlagged, BitVec.getLsbD_and, BitVec.getLsbD_not, BitVec.truncate_eq_setWidth,
        BitVec.getLsbD_setWidth, hk, decide_true, Bool.true_and]
    · exact congrArg Host.Outcome.next (runDirective_accepted h (by rintro _ ⟨⟩; exact hl) (congrArg accept (if_pos hc)))
    · exact congrArg Host.Outcome.next (runDirective_accepted h (by rintro _ ⟨⟩; exact hl) (congrArg accept (if_neg hc)))

/-! ## The edit window (R87, R90, R91) and the run (R116, R130 to R132) -/

/-- Settles O40: the refusals of R87 in order, and the rows that stay or come back before every slot is evaluated. -/
theorem editWindowDirectives : Obligations.EditWindowDirectives := by
  refine fun tag s t => ⟨fun h => ?_, fun h => ?_, fun h => ?_⟩ <;> obtain ⟨q, n, r, rfl⟩ := h.1.eq_taken
  · have closed : s.window = none → ¬ s.window.isSome = true := fun hw => by simp [hw]
    have idle : s.run = none → ¬ s.run.isSome = true := fun hr => by simp [hr]
    refine ⟨fun hw => ?_, fun hw hr => ?_, fun hw hr hc => ?_, fun hw hr hc => ?_⟩
    · have open_ : s.window.isSome = true := Option.isSome_iff_ne_none.2 hw
      exact congrArg Host.Outcome.next (runDirective_refused h (fun _ => length_nil_of rfl) (if_pos open_))
    · have busy : s.run.isSome = true := Option.isSome_iff_ne_none.2 hr
      exact congrArg Host.Outcome.next (runDirective_refused h (fun _ => length_nil_of rfl)
        ((if_neg (closed hw)).trans (if_pos busy)))
    · exact congrArg Host.Outcome.next (runDirective_refused h (fun _ => length_nil_of rfl)
        ((if_neg (closed hw)).trans ((if_neg (idle hr)).trans (if_pos hc))))
    · have uncertified : ¬ tableCertified s = true := by simp [hc]
      exact congrArg Host.Outcome.next (runDirective_accepted h (fun _ => length_nil_of rfl)
        ((if_neg (closed hw)).trans ((if_neg (idle hr)).trans (if_neg uncertified))))
  · refine ⟨fun hw => ?_, fun w hw => ?_⟩
    · exact congrArg Host.Outcome.next (runDirective_refused h (fun _ => length_nil_of rfl) (by simp only [editCloseRule, hw]))
    · exact congrArg Host.Outcome.next (runDirective_accepted h (fun _ => length_nil_of rfl) (by simp only [editCloseRule, hw]; rfl))
  · refine ⟨fun hw => ?_, fun w hw => ?_⟩
    · exact congrArg Host.Outcome.next (runDirective_refused h (fun _ => length_nil_of rfl) (by simp only [editCancelRule, hw]))
    · exact congrArg Host.Outcome.next (runDirective_accepted h (fun _ => length_nil_of rfl) (by simp only [editCancelRule, hw]; rfl))

theorem planHoldRule_of_running {s : State} {r : PlanningRun} (hr : s.run = some r) (hm : r.mode = .running) :
    planHoldRule s = accept { s with run := some { r with mode := .held } } := by
  simp only [planHoldRule, hr, hm, if_true]

theorem planHoldRule_of_held {s : State} (h : ∀ r, s.run = some r → r.mode = .held) : planHoldRule s = refuse .state s := by
  unfold planHoldRule
  split
  · next r hr => exact if_neg (by rw [h r hr]; nofun)
  · rfl

theorem planResumeRule_of_held {s : State} {r : PlanningRun} (hr : s.run = some r) (hm : r.mode = .held) :
    planResumeRule s = accept { s with run := some { r with mode := .running } } := by
  simp only [planResumeRule, hr, hm, if_true]

theorem planResumeRule_of_running {s : State} (h : ∀ r, s.run = some r → r.mode = .running) :
    planResumeRule s = refuse .state s := by
  unfold planResumeRule
  split
  · next r hr => exact if_neg (by rw [h r hr]; nofun)
  · rfl

theorem planAbortRule_of_run {s : State} (h : s.run ≠ none) : planAbortRule s =
    accept (requestReport (.plan .aborted false (s.records.toList.map (·.state))) { s with run := none }) := by
  obtain ⟨r, hr⟩ := Option.ne_none_iff_exists'.1 h
  simp only [planAbortRule, abortRun, hr, Option.isSome_some, if_true]
  rfl

/-- Settles O45: a run starts from the slots as they stand, changes its mode alone, and ends with its report. -/
theorem planDirectives : Obligations.PlanDirectives := by
  refine fun tag s t => ⟨fun h => ?_, fun h => ?_, fun h => ?_, fun h => ?_⟩ <;>
    obtain ⟨q, n, b, rfl⟩ := h.1.eq_taken
  · have idle : s.run = none → ¬ s.run.isSome = true := fun hr => by simp [hr]
    refine ⟨fun hr => ?_, fun hr hw => ?_, fun hr hw => ?_⟩
    · have busy : s.run.isSome = true := Option.isSome_iff_ne_none.2 hr
      exact congrArg Host.Outcome.next (runDirective_refused h (fun _ => length_nil_of rfl) (if_pos busy))
    · have open_ : s.window.isSome = true := Option.isSome_iff_ne_none.2 hw
      exact congrArg Host.Outcome.next (runDirective_refused h (fun _ => length_nil_of rfl)
        ((if_neg (idle hr)).trans (if_pos open_)))
    · have closed : ¬ s.window.isSome = true := by simp [hw]
      exact congrArg Host.Outcome.next (runDirective_accepted h (fun _ => length_nil_of rfl)
        ((if_neg (idle hr)).trans (if_neg closed)))
  · exact ⟨fun r hr hm => congrArg Host.Outcome.next
        (runDirective_accepted h (fun _ => length_nil_of rfl) (planHoldRule_of_running hr hm)),
      fun hm => congrArg Host.Outcome.next
        (runDirective_refused h (fun _ => length_nil_of rfl) (planHoldRule_of_held hm))⟩
  · exact ⟨fun r hr hm => congrArg Host.Outcome.next
        (runDirective_accepted h (fun _ => length_nil_of rfl) (planResumeRule_of_held hr hm)),
      fun hm => congrArg Host.Outcome.next
        (runDirective_refused h (fun _ => length_nil_of rfl) (planResumeRule_of_running hm))⟩
  · refine ⟨fun hr => ?_, fun hr => ?_⟩
    · have idle : ¬ s.run.isSome = true := by simp [hr]
      exact congrArg Host.Outcome.next (runDirective_refused h (fun _ => length_nil_of rfl) (if_neg idle))
    · exact congrArg Host.Outcome.next (runDirective_accepted h (fun _ => length_nil_of rfl) (planAbortRule_of_run hr))

end Sys2Proof.Machine
end

section
/-! SUPPORT. PURGE, and the moves of the table pointer; the proofs of O33 and O34. -/

namespace Sys2Proof.Machine

/-! ## PURGE (R158, R177) -/

theorem removeReports_foldl (l : List SlotNo) (u : State) : l.foldl (fun s i => removeReports i s) u =
    { u with reports := u.reports.filter fun r => l.all fun i => r.slot != some i } := by
  induction l generalizing u with
  | nil => simp
  | cons a l ih =>
    rw [List.foldl_cons, ih]
    simp only [removeReports, List.filter_filter, List.all_cons, Bool.and_comm]

/-- The state of PURGE before the string records follow (R177). -/
def purgedState (s : State) : State :=
  { s with
    slots := Vector.ofFn fun i => if inFixedPlace s i then s.slots[i] else none
    places := Vector.ofFn fun p => if s.places[p].fixed then s.places[p] else Place.empty
    reports := s.reports.filter fun r => (purgedSlots s).all fun i => r.slot != some i }

theorem purgeAll_eq (s : State) : purgeAll s = recordsFromFixed (purgedState s) := by
  unfold purgeAll
  dsimp only
  rw [removeReports_foldl]
  unfold purgedState
  rfl

theorem mem_purgedSlots (s : State) (i : SlotNo) :
    i ∈ purgedSlots s ↔ s.slots[i] ≠ none ∧ inFixedPlace s i = false := by
  simp [purgedSlots, Option.isSome_iff_ne_none]

theorem recordsFromFixed_record (w : State) (i : StringNo) : (recordsFromFixed w).records[i] =
    if whollyFixed w i then { state := .planned, reference := fixedReference w i, review := 0 }
      else StringRecord.initial := Vector.getElem_ofFn _

/-- Settles O33: the records follow the places that are left, which the records themselves do not enter. -/
theorem purgeEffect : Obligations.PurgeEffect := by
  intro tag s t h
  obtain ⟨q, n, b, ht⟩ := h.1.eq_taken
  have hrun : t.run = s.run := by rw [ht]
  refine ⟨fun hp => ?_, fun hp hr => ?_, fun hp hr => ⟨recordsFromFixed (purgedState t), ?_, ?_, fun i => ?_,
    fun p => ?_, fun r => ?_, ?_, fun i hi => ?_, fun i hi => ?_⟩⟩
  · exact congrArg Host.Outcome.next (runDirective_refused h (fun _ => length_nil_of rfl) (if_pos hp))
  · have enabled : ¬ s.purgeEnable = false := by simp [hp]
    have busy : t.run.isSome = true := Option.isSome_iff_ne_none.2 (hrun ▸ hr)
    exact congrArg Host.Outcome.next (runDirective_refused h (fun _ => length_nil_of rfl)
      ((if_neg enabled).trans (if_pos busy)))
  · have enabled : ¬ s.purgeEnable = false := by simp [hp]
    have idle : ¬ t.run.isSome = true := by simp [hrun, hr]
    exact congrArg Host.Outcome.next (runDirective_accepted h (fun _ => length_nil_of rfl)
      (((if_neg enabled).trans (if_neg idle)).trans (congrArg accept (purgeAll_eq _))))
  · rfl
  · subst ht
    exact Vector.getElem_ofFn _
  · subst ht
    exact Vector.getElem_ofFn _
  · subst ht
    refine List.mem_filter.trans (and_congr_right fun _ => List.all_eq_true.trans ⟨fun hk i hi => ?_, fun hk i hi => ?_⟩)
    · by_contra hn
      rw [not_or, Bool.not_eq_true] at hn
      exact bne_iff_ne.1 (hk i ((mem_purgedSlots _ i).2 hn)) hi
    · refine bne_iff_ne.2 fun hs => ?_
      obtain ⟨hocc, hunfixed⟩ := (mem_purgedSlots _ i).1 hi
      exact (hk i hs).elim hocc fun hf => Bool.false_ne_true (hunfixed.symm.trans hf)
  · subst ht
    exact List.filter_sublist
  · exact (recordsFromFixed_record _ i).trans (if_pos hi)
  · exact (recordsFromFixed_record _ i).trans (if_neg (Bool.eq_false_iff.1 hi))

/-! ## The table pointer (R153, R154) -/

/-- Some bytes carry `count` entries from an index: the largest number of whole entries that fit the room. -/
def Carries (s : State) (table index room count : Nat) (entries : List (List Byte)) : Prop :=
  entries.length ≤ count ∧ entries.flatten.length ≤ room ∧
    (∀ j e, entries[j]? = some e → e = entryBytes s table (Nat.repeat (nextIndex table) j index)) ∧
    (entries.length < count → room < entries.flatten.length +
      (entryBytes s table (Nat.repeat (nextIndex table) entries.length index)).length)

theorem repeat_succ_comm {α : Type} (f : α → α) (j : Nat) (a : α) : Nat.repeat f (j + 1) a = Nat.repeat f j (f a) := by
  induction j with
  | zero => rfl
  | succ j ih => exact congrArg f ih

theorem readEntries_carries (s : State) (table count index room : Nat) :
    Carries s table index room count (readEntries s table count index room) := by
  induction count generalizing index room with
  | zero => exact ⟨Nat.le_refl 0, Nat.zero_le _, nofun, nofun⟩
  | succ count ih =>
    rw [readEntries]
    split
    · next hfit =>
      obtain ⟨hlen, hroom, hget, hmax⟩ := ih (nextIndex table index) (room - (entryBytes s table index).length)
      refine ⟨Nat.succ_le_succ hlen, ?_, fun j e he => ?_, fun hlt => ?_⟩
      · rw [List.flatten_cons, List.length_append]
        omega
      · cases j with
        | zero => exact (Option.some.inj he).symm
        | succ j => rw [repeat_succ_comm]; exact hget j e he
      · rw [List.flatten_cons, List.length_append, List.length_cons, repeat_succ_comm]
        have hnext := hmax (Nat.lt_of_succ_lt_succ hlt)
        omega
    · next hfit =>
      refine ⟨Nat.zero_le _, Nat.zero_le _, nofun, fun _ => ?_⟩
      simpa [Nat.repeat] using hfit

/-- Settles O34: `readEntries` takes entries while they fit, and the pointer moves past what it took. -/
theorem pointerMoves : Obligations.PointerMoves := by
  refine ⟨fun tag table index s t h => ⟨fun ht hi => ?_, fun hr => ?_⟩, fun tag n s t => ?_⟩
  · have inside : ¬ (9 < byteAt [table, index] 0 ∨
        tableEntries (byteAt [table, index] 0) ≤ byteAt [table, index] 1) := not_or.2 ⟨Nat.not_lt.2 ht, Nat.not_le.2 hi⟩
    exact congrArg Host.Outcome.next (runDirective_accepted h (by rintro _ ⟨⟩; rfl) (if_neg inside))
  · exact congrArg Host.Outcome.next (runDirective_refused h (by rintro _ ⟨⟩; rfl) (if_pos hr))
  · intro at_ carries reply
    refine ⟨fun h hn => ?_, fun h hmin hmax => ?_, fun h => ?_⟩
    · exact congrArg Host.Outcome.next (runDirective_refused h (by rintro _ ⟨⟩; rfl) (if_pos hn))
    · obtain ⟨q, k, r, rfl⟩ := h.1.eq_taken
      have inside : ¬ (byteAt [n] 0 < 1 ∨ 8 < byteAt [n] 0) := not_or.2 ⟨Nat.not_lt.2 hmin, Nat.not_lt.2 hmax⟩
      exact ⟨_, readEntries_carries _ _ _ _ _, congrArg Host.Outcome.next
        (runDirective_told h (by rintro _ ⟨⟩; rfl) (if_neg inside))⟩
    · obtain ⟨q, k, r, rfl⟩ := h.1.eq_taken
      exact ⟨_, readEntries_carries _ _ _ _ _, congrArg Host.Outcome.next
        (runDirective_told h (by rintro _ ⟨⟩; rfl) rfl)⟩

end Sys2Proof.Machine
end

section
/-! SUPPORT. The WRITE rules of the slot map, the profiles, the curve points and the settings; the proofs of O35, O36 and
O39. -/

namespace Sys2Proof.Machine

/-! ## The slot map (R17) -/

theorem resetNamed_eq (v : Option SlotNo) (s : State) : resetNamed v s = { s with slots := (resetNamed v s).slots } := by
  cases v <;> rfl

theorem resetNamed_slot (v : Option SlotNo) (s : State) (i : SlotNo) :
    (resetNamed v s).slots[i] = if v = some i then s.slots[i].map resetTracker else s.slots[i] := by
  cases v with
  | none => simp [resetNamed]
  | some j =>
    rw [resetNamed, resetSegments, updateSlot_slot]
    simp only [Option.some.injEq]

theorem map_resetTracker_idem (v : Slot) : (v.map resetTracker).map resetTracker = v.map resetTracker := by
  cases v with
  | none => rfl
  | some m => exact congrArg some (resetTracker_idem m)

section
variable {s : State} {k : Fin 128} {new : Option SlotNo}

theorem getElem?_slotMap (s : State) (k : Fin 128) : (s.slotMap[k.val]?).getD none = s.slotMap[k] := by simp

theorem assignEntry_of_same (h : s.slotMap[k] = new) : assignEntry k.val new s = s := by
  simp only [assignEntry, getElem?_slotMap, h, if_true]

theorem assignEntry_of_other (h : s.slotMap[k] ≠ new) : assignEntry k.val new s =
    resetNamed new (resetNamed s.slotMap[k] { s with slotMap := s.slotMap.set k new }) := by
  simp only [assignEntry, getElem?_slotMap, if_neg (Ne.symm h), setIfInBounds_eq_set]

theorem slotMapRule_of_range {v : Byte} (h64 : 64 ≤ v.toNat) (h255 : v.toNat ≠ 255) :
    slotMapRule [v] s = refuse .range s :=
  (if_neg h255).trans (dif_neg (Nat.not_lt.2 h64))

theorem slotMapRule_of_unassign {v : Byte} (h : v.toNat = 255) (hk : s.pointer.index = k.val) :
    slotMapRule [v] s = accept (assignEntry k.val none s) :=
  (if_pos h).trans (by rw [hk])

theorem namedElsewhere_iff (map : Vector (Option SlotNo) 128) (k : Fin 128) (i : SlotNo) :
    namedElsewhere map k.val i = true ↔ ∃ j : Fin 128, j ≠ k ∧ map[j] = some i := by
  simp [namedElsewhere, Fin.val_inj]

theorem slotMapRule_of_slot {v : Byte} {i : SlotNo} (h : v.toNat = i.val) (hk : s.pointer.index = k.val) :
    slotMapRule [v] s =
      if namedElsewhere s.slotMap k.val i then refuse .duplicate s else accept (assignEntry k.val (some i) s) := by
  have hlt : v.toNat < 64 := by omega
  have hi : (⟨v.toNat, hlt⟩ : SlotNo) = i := Fin.ext h
  have h255 : ¬ v.toNat = 255 := by omega
  refine ((if_neg h255).trans (dif_pos hlt)).trans ?_
  simp only [byteAt, List.getD_cons_zero, hi, hk]

end

/-- Settles O35: the entry keeps its value, or takes the new one with both slots' segments reset. -/
theorem slotMapWritten : Obligations.SlotMapWritten := by
  intro tag v s t k h
  have hmap : t.slotMap = s.slotMap := by rw [h.1.fields]
  have hslots : t.slots = s.slots := by rw [h.1.fields]
  refine ⟨fun hmin hmax => ?_, fun hp => ?_⟩
  · rw [exec_write_readOnly ⟨hmin, hmax⟩]
    exact congrArg Host.Outcome.next (runDirective_refused h (by simp [parameterLength]) rfl)
  have htable : s.pointer.table = 0 := by rw [hp]
  have hindex : t.pointer.index = k.val := by rw [h.1.fields, hp]
  rw [← hmap, ← hslots]
  refine ⟨fun h64 h255 => ?_, fun i hi hnamed => ?_, fun new hnew => ?_⟩
  · exact congrArg Host.Outcome.next (runWrite_refused h htable rfl (slotMapRule_of_range h64 h255) nofun)
  · exact congrArg Host.Outcome.next (runWrite_refused h htable rfl
      ((slotMapRule_of_slot hi hindex).trans (if_pos ((namedElsewhere_iff _ k i).2 hnamed))) nofun)
  · have hrule : slotMapRule [v] t = accept (assignEntry k.val new t) := by
      rcases hnew with ⟨hv, rfl⟩ | ⟨i, hi, rfl, hfree⟩
      · exact slotMapRule_of_unassign hv hindex
      · rw [slotMapRule_of_slot hi hindex, if_neg]
        rw [namedElsewhere_iff]
        exact fun ⟨j, hj, hji⟩ => hfree j hj hji
    refine ⟨fun hsame => ?_, fun hother => ?_⟩
    · rw [assignEntry_of_same hsame] at hrule
      exact congrArg Host.Outcome.next (runWrite_accepted h htable rfl hrule)
    · let u := resetNamed new (resetNamed t.slotMap[k] { t with slotMap := t.slotMap.set k new })
      have hu : u = { t with slotMap := t.slotMap.set k new, slots := u.slots } := by
        simp only [u]
        rw [resetNamed_eq new, resetNamed_eq t.slotMap[k]]
      rw [assignEntry_of_other hother] at hrule
      refine ⟨u.slots, ?_, fun i => ?_⟩
      · exact congrArg Host.Outcome.next (runWrite_accepted h htable rfl (hrule.trans (congrArg accept hu)))
      · refine (resetNamed_slot new _ i).trans ?_
        rw [resetNamed_slot]
        by_cases h1 : new = some i <;> by_cases h2 : t.slotMap[k] = some i <;>
          simp only [h1, h2, if_true, if_false, or_true, true_or, or_self, map_resetTracker_idem]

/-! ## Profiles (R23, R24) -/

theorem unsignedAt_one (bs : List Byte) (i : Nat) : unsignedAt bs i 1 = byteAt bs i := by
  unfold unsignedAt byteAt
  rw [List.getD_eq_getElem?_getD, ← List.head?_drop]
  cases bs.drop i with
  | nil => rfl
  | cons b rest => simp

theorem inRange_iff (lo hi v : Nat) : inRange lo hi v = true ↔ lo ≤ v ∧ v ≤ hi := by
  simp [inRange]

theorem profileInRange_iff (p : Profile) : profileInRange p = true ↔
    (20000 ≤ p.fullMark ∧ p.fullMark ≤ 50000) ∧ (20000 ≤ p.emptyMark ∧ p.emptyMark ≤ 50000) ∧
      (20000 ≤ p.hardHigh ∧ p.hardHigh ≤ 50000) ∧ (20000 ≤ p.hardLow ∧ p.hardLow ≤ 50000) ∧
      (1 ≤ p.restThreshold ∧ p.restThreshold ≤ 20000) ∧ (100 ≤ p.stepMinimum ∧ p.stepMinimum ≤ 200000) ∧
      (1 ≤ p.stepInterval ∧ p.stepInterval ≤ 1000) ∧ p.settleTime ≤ 7200 ∧
      (600 ≤ p.restWindow ∧ p.restWindow ≤ 86400) ∧ (100 ≤ p.maxGap ∧ p.maxGap ≤ 10000) ∧ p.gapAllowance ≤ 255 ∧
      (-400 ≤ p.hardTemperature ∧ p.hardTemperature ≤ 1000) := by
  simp only [profileInRange, Bool.and_eq_true, inRange_iff, decide_eq_true_eq, Nat.zero_le, true_and, and_assoc]

theorem profileOrdered_iff (p : Profile) : profileOrdered p = true ↔
    p.hardLow < p.emptyMark ∧ p.emptyMark < p.fullMark ∧ p.fullMark < p.hardHigh := by
  simp only [profileOrdered, Bool.and_eq_true, decide_eq_true_eq, and_assoc]

/-- The slots after the segment reset of those that a test names (R11). -/
def slotsReset (which : ModuleRecord → Bool) (slots : Vector Slot 64) : Vector Slot 64 :=
  Vector.ofFn fun i => slots[i].map fun m => if which m then resetTracker m else m

theorem profileRule_eq {mask : Option (BitVec 16)} {params : List Byte} {t : State} {k : Fin 4} {p : Profile}
    (hk : t.pointer.index = k.val) (hp : resultingProfile mask t.profiles[k] params = p) :
    profileRule mask params t = if profileInRange p = false then refuse .range t
      else if profileOrdered p = false then refuse .order t
      else accept { t with
        profiles := t.profiles.set k p, slots := slotsReset (fun m => m.family.val == k.val) t.slots } := by
  have old : (t.profiles[k.val]?).getD Profile.invalid = t.profiles[k] := by simp
  rw [profileRule, hk, old, hp, setIfInBounds_eq_set]
  rfl

theorem slotsReset_of_named {which : ModuleRecord → Bool} {slots : Vector Slot 64} {i : SlotNo} {m : ModuleRecord}
    (hm : slots[i] = some m) (hw : which m = true) : (slotsReset which slots)[i] = some (resetTracker m) := by
  have h : (slotsReset which slots)[i] = _ := Vector.getElem_ofFn i.isLt
  rw [h, Fin.eta, hm, Option.map_some, if_pos hw]

theorem slotsReset_of_unnamed {which : ModuleRecord → Bool} {slots : Vector Slot 64} {i : SlotNo}
    (hw : ∀ m, slots[i] = some m → which m = false) : (slotsReset which slots)[i] = slots[i] := by
  have h : (slotsReset which slots)[i] = _ := Vector.getElem_ofFn i.isLt
  rw [h, Fin.eta]
  cases hm : slots[i] with
  | none => rfl
  | some m => rw [Option.map_some, if_neg (Bool.eq_false_iff.1 (hw m hm))]

/-! ## Curve points (R54, R55) -/

theorem curveOrderKept_iff (curves : Vector CurvePoint 32) (k : Fin 32) (temp : Int) :
    curveOrderKept curves k.val temp = true ↔ ∀ j : Fin 32, j.val / 8 = k.val / 8 → curves[j].written = true →
      (j < k → curves[j].temperature < temp) ∧ (k < j → temp < curves[j].temperature) := by
  simp only [curveOrderKept, List.all_eq_true, List.mem_finRange, forall_true_left]
  refine forall_congr' fun j => ?_
  by_cases h : j.val / 8 = k.val / 8 ∧ curves[j].written = true
  · rw [if_pos h]
    obtain ⟨h1, h2⟩ := h
    simp only [h1, h2, Bool.and_eq_true, Bool.or_eq_true, Bool.not_eq_true', decide_eq_false_iff_not,
      decide_eq_true_eq, Fin.lt_def, imp_iff_not_or, not_true_eq_false, false_or]
  · rw [if_neg h]
    simp only [true_iff]
    exact fun h1 h2 => absurd ⟨h1, h2⟩ h

theorem curveRule_eq {mask : Option (BitVec 16)} {params : List Byte} {t : State} {k : Fin 32}
    (hk : t.pointer.index = k.val) :
    curveRule mask params t =
      let temp := masked mask 0 t.curves[k].temperature (signedAt params 0 2)
      let factor := masked mask 1 t.curves[k].factor (unsignedAt params 2 2)
      if factor = 0 then accept { t with curves := t.curves.set k CurvePoint.unwritten }
      else if temp < -400 ∨ 1250 < temp ∨ factor < 500 ∨ 2000 < factor then refuse .range t
      else if curveOrderKept t.curves k.val temp = false then refuse .order t
      else accept { t with curves := t.curves.set k { written := true, temperature := temp, factor := factor } } := by
  have old : (t.curves[k.val]?).getD CurvePoint.unwritten = t.curves[k] := by simp
  simp only [curveRule, hk, old, setIfInBounds_eq_set]

/-- Settles O36: the tests of R23 and of R54 and R55 in their order, on what results under the field mask. -/
theorem profileAndCurveWritten : Obligations.ProfileAndCurveWritten := by
  refine ⟨fun tag params s t k h hl hpointer => ?_, fun tag params s t k h hl hpointer => ?_⟩
  · intro old p inRange ordered
    have hprofiles : t.profiles = s.profiles := by rw [h.1.fields]
    have hslots : t.slots = s.slots := by rw [h.1.fields]
    have hindex : t.pointer.index = k.val := by rw [h.1.fields, hpointer]
    have htable : s.pointer.table = 1 := by rw [hpointer]
    have hform : writeFormLength 1 = some params.length := by rw [hl]; rfl
    have hp : resultingProfile s.fieldMask t.profiles[k] params = p := by
      rw [hprofiles, resultingProfile, unsignedAt_one]
    have hrule := profileRule_eq hindex hp
    have hin : profileInRange p = true ↔ inRange := profileInRange_iff p
    have hord : profileOrdered p = true ↔ ordered := profileOrdered_iff p
    rw [← hprofiles, ← hslots]
    refine ⟨fun hn => ?_, fun hi hn => ?_, fun hi ho => ⟨slotsReset (fun m => m.family.val == k.val) t.slots, ?_,
      fun i => ⟨fun m hm hf => slotsReset_of_named hm (by simp [hf]), fun hf => slotsReset_of_unnamed fun m hm => ?_⟩⟩⟩
    · rw [if_pos (Bool.eq_false_iff.2 (mt hin.1 hn))] at hrule
      exact congrArg Host.Outcome.next (runWrite_refused h htable hform hrule nofun)
    · rw [if_neg (by simp [hin.2 hi]), if_pos (Bool.eq_false_iff.2 (mt hord.1 hn))] at hrule
      exact congrArg Host.Outcome.next (runWrite_refused h htable hform hrule nofun)
    · rw [if_neg (by simp [hin.2 hi]), if_neg (by simp [hord.2 ho])] at hrule
      exact congrArg Host.Outcome.next (runWrite_accepted h htable hform hrule)
    · simp [hf m hm]
  · have hcurves : t.curves = s.curves := by rw [h.1.fields]
    have hindex : t.pointer.index = k.val := by rw [h.1.fields, hpointer]
    have htable : s.pointer.table = 2 := by rw [hpointer]
    have hform : writeFormLength 2 = some params.length := by rw [hl]; rfl
    rw [← hcurves]
    intro temp factor inRange ordered
    have hrule : curveRule s.fieldMask params t = _ := curveRule_eq hindex
    have hord : curveOrderKept t.curves k.val temp = true ↔ ordered := curveOrderKept_iff _ _ _
    have hin : (temp < -400 ∨ 1250 < temp ∨ factor < 500 ∨ 2000 < factor) ↔ ¬ inRange := by
      simp only [inRange, not_and_or, not_le]
    refine ⟨fun hf => ?_, fun hf hn => ?_, fun hf hi hn => ?_, fun hf hi ho => ?_⟩
    · exact congrArg Host.Outcome.next (runWrite_accepted h htable hform (hrule.trans (if_pos hf)))
    · exact congrArg Host.Outcome.next (runWrite_refused h htable hform
        (hrule.trans ((if_neg hf).trans (if_pos (hin.2 hn)))) nofun)
    · have hin' : ¬ (temp < -400 ∨ 1250 < temp ∨ factor < 500 ∨ 2000 < factor) := fun hc => hin.1 hc hi
      exact congrArg Host.Outcome.next (runWrite_refused h htable hform (hrule.trans ((if_neg hf).trans
        ((if_neg hin').trans (if_pos (Bool.eq_false_iff.2 (mt hord.1 hn)))))) nofun)
    · have hin' : ¬ (temp < -400 ∨ 1250 < temp ∨ factor < 500 ∨ 2000 < factor) := fun hc => hin.1 hc hi
      have hkept : ¬ curveOrderKept t.curves k.val temp = false := by simp [hord.2 ho]
      exact congrArg Host.Outcome.next (runWrite_accepted h htable hform (hrule.trans ((if_neg hf).trans
        ((if_neg hin').trans (if_neg hkept)))))

/-! ## Settings (R172) -/

/-- Settles O39: one range test on what results under the field mask. -/
theorem settingsWritten : Obligations.SettingsWritten := by
  refine ⟨fun n present written => ⟨rfl, fun m => rfl⟩, fun tag params s t h hl htable => ?_⟩
  have hform : writeFormLength 9 = some params.length := by rw [hl]; rfl
  have hsettings : t.settings = s.settings := by rw [h.1.fields]
  rw [← hsettings]
  intro boot stored timeout rerun within
  have htest : (inRange 5 8 boot && decide (stored ≤ 31) && inRange 500 60000 timeout && decide (rerun ≤ 3)) = true ↔
      within := by
    simp only [Bool.and_eq_true, inRange_iff, decide_eq_true_eq, and_assoc]
    rfl
  exact ⟨fun hn => congrArg Host.Outcome.next (runWrite_refused h htable hform (if_neg (mt htest.1 hn)) nofun),
    fun hi => congrArg Host.Outcome.next (runWrite_accepted h htable hform (if_pos (htest.2 hi)))⟩

end Sys2Proof.Machine
end

section
/-! SUPPORT. The WRITE rule of the grade rows; the proof of O37. -/

namespace Sys2Proof.Machine

/-! ## The written criteria (R70, R89) -/

theorem figureOfCode_eq (n : Nat) : figureOfCode n = [FigureKind.cap, .soh, .rdc, .sdr, .tmax, .nstep][n]? :=
  match n with
  | 0 | 1 | 2 | 3 | 4 | 5 => rfl
  | _ + 6 => rfl

theorem criterionOffset_add_one (j : Nat) : criterionOffset j + 1 = 5 + 5 * j := by
  unfold criterionOffset
  omega

theorem writtenThreshold_eq (d : List Byte) (j : Nat) : writtenThreshold d j = signedAt d (6 + 5 * j) 3 := by
  unfold writtenThreshold criterionOffset
  congr 1
  omega

theorem clampInt_eq {lo hi : Int} (h : lo ≤ hi) (v : Int) : clampInt lo hi v = max lo (min hi v) := by
  unfold clampInt
  split <;> [skip; split] <;> omega

theorem allPresent_map_some {α : Type} (l : List α) : allPresent (l.map some) = some l := by
  induction l with
  | nil => rfl
  | cons a l ih => rw [List.map_cons, allPresent, ih]; rfl

theorem allPresent_of_mem {α : Type} {l : List (Option α)} (h : none ∈ l) : allPresent l = none := by
  induction l with
  | nil => cases h
  | cons v vs ih =>
    rw [allPresent]
    rcases List.mem_cons.1 h with rfl | h
    · rfl
    · rw [ih h]
      cases v <;> rfl

/-- The criteria that a write results in, as the mask chooses them (R89, R156). -/
theorem resultingCriteria_eq (mask : Option (BitVec 16)) (old : GradeRow) (d : List Byte) :
    resultingCriteria mask old d =
      masked mask 3 (old.criteria.map some) ((List.range (byteAt d 3)).map (writtenCriterion d)) := rfl

/-! ## The rule (R88, R89) -/

section
variable {mask : Option (BitVec 16)} {params : List Byte} {t : State} {k : Fin 16}

theorem getElem?_row (t : State) (k : Fin 16) : (t.rows[k.val]?).getD GradeRow.empty = t.rows[k] := by simp

theorem gradeRowRule_of_certified (h : tableCertified t = true) : gradeRowRule mask params t = refuse .certified t :=
  if_pos h

theorem gradeRowRule_of_closed (h : tableCertified t = false) (hw : t.window = none) :
    gradeRowRule mask params t = refuse .edit t :=
  (if_neg (by simp [h])).trans (if_pos (by simp [hw]))

/-- An open window shows that the table is not certified (R85). -/
theorem tableCertified_of_open {w : EditWindow} (hw : t.window = some w) : tableCertified t = false := by
  unfold tableCertified
  split
  · rfl
  · simp [hw]

theorem gradeRowRule_of_open {w : EditWindow} (hw : t.window = some w) (hk : t.pointer.index = k.val) :
    gradeRowRule mask params t =
      let code := masked mask 1 t.rows[k].code (byteAt params 1)
      let criteria := resultingCriteria mask t.rows[k] params
      if code < 1 ∨ 15 < code then refuse .range t
      else if 4 < criteria.length then refuse .range t
      else
        match allPresent criteria with
        | none => refuse .range t
        | some cs => accept { t with
            rows := t.rows.set k
              { enabled := masked mask 0 t.rows[k].enabled (flagAt params 0)
                code := code
                families := masked mask 2 t.rows[k].families (BitVec.ofNat 4 (byteAt params 2))
                criteria := cs.mapIdx fun j c => withThreshold mask t.rows[k] params j c }
            window := some { written := true, shadow := w.shadow } } := by
  have huncert : ¬ tableCertified t = true := by simp [tableCertified_of_open hw]
  simp only [gradeRowRule, if_neg huncert, hk, getElem?_row, storeRow, setIfInBounds_eq_set, hw,
    Option.map_some, Option.isNone_some, Bool.false_eq_true, if_false] <;> rfl

end

/-- Settles O37: the tests of R88 in their order, and the row that results with each threshold clamped. -/
theorem gradeRowWritten : Obligations.GradeRowWritten := by
  intro tag params s t k h hl hpointer
  have hrows : t.rows = s.rows := by rw [h.1.fields]
  have hwindow : t.window = s.window := by rw [h.1.fields]
  have hcert : tableCertified t = tableCertified s := by rw [h.1.fields]; rfl
  have hindex : t.pointer.index = k.val := by rw [h.1.fields, hpointer]
  have htable : s.pointer.table = 3 := by rw [hpointer]
  have hform : writeFormLength 3 = some params.length := by rw [hl]; rfl
  rw [← hrows, ← hwindow, ← hcert]
  intro old code predicate thresholdWritten criterionWritten criteria threshold clamped
  have hcriteria : resultingCriteria s.fieldMask t.rows[k] params = criteria := by
    rw [resultingCriteria_eq]
    have hw : writtenCriterion params = criterionWritten := funext fun j => by
      simp only [writtenCriterion, figureOfCode_eq, criterionOffset_add_one, writtenThreshold_eq]
      rfl
    rw [hw]
  have hthreshold : ∀ j, resultingThreshold s.fieldMask t.rows[k] params j = threshold j := fun j => by
    simp only [resultingThreshold, writtenThreshold_eq]
    rfl
  have hclamped : ∀ figure v, clampThreshold figure v = clamped figure v := fun figure v => by
    cases figure <;> exact clampInt_eq (by decide) v
  refine ⟨fun hc => ?_, fun hc hw => ?_, fun w hw => ⟨fun hr => ?_, fun cs hmin hmax hcs hlen => ?_⟩⟩
  · exact congrArg Host.Outcome.next (runWrite_refused h htable hform (gradeRowRule_of_certified hc) nofun)
  · exact congrArg Host.Outcome.next (runWrite_refused h htable hform (gradeRowRule_of_closed hc hw) nofun)
  · have hrule : gradeRowRule s.fieldMask params t = _ := gradeRowRule_of_open hw hindex
    have hrefused : gradeRowRule s.fieldMask params t = refuse .range t := by
      rw [hrule, hcriteria]
      dsimp only
      split
      · rfl
      · next hcode =>
        split
        · rfl
        · next hlen =>
          have hnone : none ∈ criteria := by
            rcases hr with hr | hr | hr | hr
            · exact absurd (.inl hr) hcode
            · exact absurd (.inr hr) hcode
            · exact absurd hr hlen
            · exact hr
          rw [allPresent_of_mem hnone]
    exact congrArg Host.Outcome.next (runWrite_refused h htable hform hrefused nofun)
  · have hrule : gradeRowRule s.fieldMask params t = _ := gradeRowRule_of_open hw hindex
    have hcode : ¬ (code < 1 ∨ 15 < code) := by omega
    have hlen' : ¬ 4 < criteria.length := by rw [hcs, List.length_map]; omega
    have hpresent : allPresent criteria = some cs := by rw [hcs, allPresent_map_some]
    rw [hcriteria] at hrule
    simp only [hpresent] at hrule
    refine ⟨_, congrArg Host.Outcome.next (runWrite_accepted h htable hform
      (hrule.trans ((if_neg hcode).trans (if_neg hlen')))), ?_, rfl, rfl, List.length_mapIdx, fun j c hj => ?_⟩
    · rw [flagAt_eq_testBit]
    · rw [List.getElem?_mapIdx, hj, Option.map_some, withThreshold, hthreshold, hclamped]

end Sys2Proof.Machine
end

section
/-! SUPPORT. WITHDRAW and CLEAR FIGURES; the proofs of O42 and O43. -/

namespace Sys2Proof.Machine

/-! ## WITHDRAW (R13) -/

theorem withdrawRule_of_slot {slot : Byte} {i : SlotNo} (h : slot.toNat = i.val) (t : State) : withdrawRule [slot] t =
    if t.slots[i].isNone then refuse .state t
    else if inFixedPlace t i then refuse .fixed t else accept (withdrawSlot i t) := by
  have hlt : slot.toNat < 64 := by omega
  obtain rfl : i = ⟨slot.toNat, hlt⟩ := Fin.ext h.symm
  exact dif_pos hlt

theorem inFixedPlace_of_place {s : State} {i : SlotNo} {q : PlaceNo} (h : placeOf s i = some q) :
    inFixedPlace s i = s.places[q].fixed := by
  simp only [inFixedPlace, h]

theorem removeReports_filter (i : SlotNo) (s : State) :
    removeReports i s = { s with reports := s.reports.filter fun r => decide (r.slot ≠ some i) } := by
  have h : (fun r : Report => r.slot != some i) = fun r => decide (r.slot ≠ some i) := funext fun r => by
    rw [Bool.eq_iff_iff, bne_iff_ne, decide_eq_true_iff]
  rw [removeReports, h]

theorem withdrawSlot_fields (i : SlotNo) (s : State) : withdrawSlot i s = { s with
    slots := s.slots.set i none
    places := (leavePlace i s).places
    records := (leavePlace i s).records
    reports := s.reports.filter fun r => decide (r.slot ≠ some i)
    run := s.run.map fun r => { r with disturbed := r.disturbed || hasUnstruckEntry s i } } := by
  have hleft : leavePlace i s = { s with places := (leavePlace i s).places, records := (leavePlace i s).records } :=
    leavePlace_work i s
  have hrun : (leavePlace i s).run = s.run := by rw [hleft]
  rw [withdrawSlot, disturbFor_eq, hasUnstruckEntry_congr hrun, hrun, removeReports_filter, setSlot, hleft]

/-- Settles O42: the tests of R13 in their order; the slot leaves its place as any slot does. -/
theorem withdrawEffect : Obligations.WithdrawEffect := by
  intro tag slot s t h
  have hslots : t.slots = s.slots := by rw [h.1.fields]
  have hplaces : t.places = s.places := by rw [h.1.fields]
  have hrecords : t.records = s.records := by rw [h.1.fields]
  have hreports : t.reports = s.reports := by rw [h.1.fields]
  have hbank : t.bank = s.bank := by rw [h.1.fields]
  have hrun : t.run = s.run := by rw [h.1.fields]
  have hat : ∀ i, placeOf t i = placeOf s i := fun i => by rw [h.1.fields]; rfl
  have hfixed : ∀ i, inFixedPlace t i = inFixedPlace s i := fun i => by rw [h.1.fields]; rfl
  refine ⟨fun h64 => ?_, fun i hi => ?_⟩
  · exact congrArg Host.Outcome.next (runDirective_refused h (by rintro _ ⟨⟩; rfl) (dif_neg (Nat.not_lt.2 h64)))
  have hrule := withdrawRule_of_slot hi t
  rw [← hslots, ← hreports, ← hrun, ← hfixed i, ← hat i, ← hasUnstruckEntry_congr hrun i, ← hbank, ← hplaces, ← hrecords]
  refine ⟨fun hv => ?_, fun hv hf => ?_, fun hv hf => ⟨withdrawSlot i t, ?_, ?_, fun hp => ?_,
    fun q string pos hp ho => ?_, fun hr => ?_, fun r hr => ?_⟩⟩
  · exact congrArg Host.Outcome.next (runDirective_refused h (by rintro _ ⟨⟩; rfl) (hrule.trans (if_pos (by simp [hv]))))
  · exact congrArg Host.Outcome.next (runDirective_refused h (by rintro _ ⟨⟩; rfl)
      (hrule.trans ((if_neg (by simpa using hv)).trans (if_pos hf))))
  · exact congrArg Host.Outcome.next (runDirective_accepted h (by rintro _ ⟨⟩; rfl)
      (hrule.trans ((if_neg (by simpa using hv)).trans (if_neg (by simp [hf])))))
  · rw [withdrawSlot_fields]
  · rw [withdrawSlot_fields, leavePlace_of_none hp]
    exact ⟨rfl, rfl⟩
  · have hq : t.places[q].fixed = false := (inFixedPlace_of_place hp).symm.trans hf
    have hleft := emptyPosition_left string pos t
    rw [← leavePlace_of_owned hp hq ho] at hleft
    exact hleft.congr hbank.symm hplaces.symm hrecords.symm (by rw [withdrawSlot_fields]) (by rw [withdrawSlot_fields])
  · rw [withdrawSlot_fields, hr]
    rfl
  · rw [withdrawSlot_fields, hr]
    rfl

/-! ## CLEAR FIGURES (R14) -/

theorem mem_namedFigures (set : Nat) (k : FigureKind) : k ∈ namedFigures set ↔ k ≠ .nstep ∧ set.testBit k.code = true := by
  unfold namedFigures
  rw [List.mem_filter]
  cases k <;> simp

theorem code_lt_five (k : FigureKind) : k.code < 5 ↔ k ≠ .nstep := by
  cases k <;> simp [FigureKind.code]

theorem exists_kind_of_code {n : Nat} (h : n < 6) : ∃ k : FigureKind, k.code = n :=
  match n, h with
  | 0, _ => ⟨.cap, rfl⟩
  | 1, _ => ⟨.soh, rfl⟩
  | 2, _ => ⟨.rdc, rfl⟩
  | 3, _ => ⟨.sdr, rfl⟩
  | 4, _ => ⟨.tmax, rfl⟩
  | 5, _ => ⟨.nstep, rfl⟩

theorem figureOfCode_code (k : FigureKind) : figureOfCode k.code = some k := by
  cases k <;> rfl

theorem code_injective {a b : FigureKind} (h : a.code = b.code) : a = b := by
  have hb := figureOfCode_code b
  rw [← h, figureOfCode_code] at hb
  exact Option.some.inj hb

theorem namedFigures_eq_nil_iff (set : Nat) : namedFigures set = [] ↔ ∀ k < 5, set.testBit k = false := by
  rw [List.eq_nil_iff_forall_not_mem]
  refine ⟨fun h n hn => ?_, fun h k hk => ?_⟩
  · obtain ⟨k, rfl⟩ := exists_kind_of_code (Nat.lt_succ_of_lt hn)
    rw [← Bool.not_eq_true]
    exact fun hb => h k ((mem_namedFigures set k).2 ⟨(code_lt_five k).1 hn, hb⟩)
  · obtain ⟨hk, hb⟩ := (mem_namedFigures set k).1 hk
    exact Bool.false_ne_true ((h k.code ((code_lt_five k).2 hk)).symm.trans hb)

theorem mem_clearedFigures (named : List FigureKind) (k : FigureKind) : k ∈ clearedFigures named ↔
    k ∈ named ∨ (k = .soh ∧ .cap ∈ named) ∨ (k = .nstep ∧ .rdc ∈ named) := by
  unfold clearedFigures
  rw [List.mem_filter]
  have hall : k ∈ [FigureKind.cap, .soh, .rdc, .sdr, .tmax, .nstep] := by cases k <;> decide
  simp only [hall, true_and, Bool.or_eq_true, Bool.and_eq_true, List.contains_iff_mem, beq_iff_eq, or_assoc]

section
variable {set : Nat}

theorem clears_iff (k : FigureKind) : k ∈ clearedFigures (namedFigures set) ↔
    (k ≠ .nstep ∧ set.testBit k.code = true) ∨ (k = .soh ∧ set.testBit 0 = true) ∨
      (k = .nstep ∧ set.testBit 2 = true) := by
  simp only [mem_clearedFigures, mem_namedFigures, ne_eq, reduceCtorEq, not_false_eq_true, true_and, FigureKind.code]

theorem figureSet_cleared_bit (k : Fin 6) : (figureSet (clearedFigures (namedFigures set))).getLsbD k = true ↔
    (k.val < 5 ∧ set.testBit k = true) ∨ (k.val = 1 ∧ set.testBit 0 = true) ∨
      (k.val = 5 ∧ set.testBit 2 = true) := by
  obtain ⟨kind, hkind⟩ := exists_kind_of_code k.isLt
  rw [figureSet_bit _ _ k.isLt, ← hkind]
  have hmem : (∃ a ∈ clearedFigures (namedFigures set), a.code = kind.code) ↔
      kind ∈ clearedFigures (namedFigures set) :=
    ⟨fun ⟨a, ha, hc⟩ => code_injective hc ▸ ha, fun h => ⟨kind, h, rfl⟩⟩
  have hone : kind.code = 1 ↔ kind = .soh := ⟨fun h => code_injective (h.trans rfl), fun h => by rw [h]; rfl⟩
  have hfive : kind.code = 5 ↔ kind = .nstep := ⟨fun h => code_injective (h.trans rfl), fun h => by rw [h]; rfl⟩
  rw [hmem, clears_iff, code_lt_five, hone, hfive]

theorem clears_contains (k : FigureKind) (bit : Bool) (h : k ∈ clearedFigures (namedFigures set) ↔ bit = true) :
    (clearedFigures (namedFigures set)).contains k = bit := by
  rw [Bool.eq_iff_iff, List.contains_iff_mem, h]

theorem clearFigures_fields (f : Figures) : clearFigures (clearedFigures (namedFigures set)) f =
    { cap := if set.testBit 0 then none else f.cap
      soh := if set.testBit 0 ∨ set.testBit 1 then none else f.soh
      rdc := if set.testBit 2 then none else f.rdc
      sdr := if set.testBit 3 then none else f.sdr
      tmax := if set.testBit 4 then none else f.tmax
      steps := if set.testBit 2 then [] else f.steps } := by
  have hcap := clears_contains (set := set) .cap (set.testBit 0) (by simp [clears_iff, FigureKind.code])
  have hsoh := clears_contains (set := set) .soh (set.testBit 0 || set.testBit 1)
    (by simp [clears_iff, FigureKind.code, or_comm])
  have hrdc := clears_contains (set := set) .rdc (set.testBit 2) (by simp [clears_iff, FigureKind.code])
  have hsdr := clears_contains (set := set) .sdr (set.testBit 3) (by simp [clears_iff, FigureKind.code])
  have htmax := clears_contains (set := set) .tmax (set.testBit 4) (by simp [clears_iff, FigureKind.code])
  simp only [clearFigures, hcap, hsoh, hrdc, hsdr, htmax, Bool.or_eq_true]

end

theorem isMeasured_iff (m : ModuleRecord) : isMeasured m = true ↔ m.state ≠ .admitted ∧ m.isQuarantined = false := by
  unfold isMeasured ModuleRecord.isQuarantined
  cases m.state <;> simp

theorem clearFiguresRule_of_slot {slot set : Byte} {i : SlotNo} (h : slot.toNat = i.val)
    (hn : namedFigures set.toNat ≠ []) (t : State) : clearFiguresRule [slot, set] t =
      if t.slots[i].any isMeasured then accept (clearSlotFigures i (namedFigures set.toNat) t) else refuse .state t := by
  have hlt : slot.toNat < 64 := by omega
  obtain rfl : i = ⟨slot.toNat, hlt⟩ := Fin.ext h.symm
  refine (dif_pos hlt).trans ?_
  simp only [byteAt, List.getD_cons_succ, List.getD_cons_zero]
  cases hk : namedFigures set.toNat with
  | nil => exact absurd hk hn
  | cons k ks => rfl

theorem clearFiguresRule_of_range {slot set : Byte} (h : 64 ≤ slot.toNat ∨ namedFigures set.toNat = []) (t : State) :
    clearFiguresRule [slot, set] t = refuse .range t := by
  unfold clearFiguresRule
  simp only [byteAt, List.getD_cons_succ, List.getD_cons_zero]
  rcases h with h | h
  · exact dif_neg (Nat.not_lt.2 h)
  · simp only [h, dite_eq_ite, ite_self]

/-- The state of CLEAR FIGURES once the figures are gone and the segments reset (R14). -/
def clearedState (i : SlotNo) (named : List FigureKind) (m : ModuleRecord) (s : State) : State :=
  { s with slots := s.slots.set i (some { m with
      figures := clearFigures (clearedFigures named) m.figures, tracker := Tracker.initial }) }

/-- The state of CLEAR FIGURES before the evaluation: the figures gone, reported, and a run disturbed (R14). -/
def clearedTold (i : SlotNo) (named : List FigureKind) (m : ModuleRecord) (s : State) : State :=
  { requestReport (.figure i (figureSet (clearedFigures named))) (clearedState i named m s) with
    run := s.run.map fun r => { r with disturbed := r.disturbed || hasUnstruckEntry s i } }

theorem clearSlotFigures_eq {i : SlotNo} {named : List FigureKind} {m : ModuleRecord} {s : State}
    (hm : s.slots[i] = some m) (hq : m.isQuarantined = false) : clearSlotFigures i named s =
      if named.contains .cap then reviewTest i (evaluateSlot i (clearedTold i named m s))
      else evaluateSlot i (clearedTold i named m s) := by
  have hcleared : resetSegments i (updateSlot i (fun m =>
      { m with figures := clearFigures (clearedFigures named) m.figures }) s) = clearedState i named m s := by
    have hreset : resetTracker { m with figures := clearFigures (clearedFigures named) m.figures } =
        { m with figures := clearFigures (clearedFigures named) m.figures, tracker := Tracker.initial } :=
      if_neg (Bool.eq_false_iff.1 hq)
    rw [updateSlot, hm, Option.map_some, resetSegments, updateSlot_setSlot, hreset]
    rfl
  have htold : disturbFor i (requestReport (.figure i (figureSet (clearedFigures named))) (clearedState i named m s)) =
      clearedTold i named m s := by
    have hrun : (requestReport (.figure i (figureSet (clearedFigures named))) (clearedState i named m s)).run = s.run :=
      (requestReport_keeps _ _).2.2.2
    rw [disturbFor_eq, hasUnstruckEntry_congr hrun, hrun]
    rfl
  unfold clearSlotFigures
  dsimp only
  rw [hcleared, htold]

/-- What an evaluation leaves of the slot's record: all but grade, grade row and state, and those too while the window
is open. -/
theorem evaluateSlot_record {i : SlotNo} {s : State} {m : ModuleRecord} (hm : s.slots[i] = some m) : ∃ g row st,
    (evaluateSlot i s).slots[i] = some { m with grade := g, gradeRow := row, state := st } ∧
      (s.window ≠ none → g = m.grade ∧ st = m.state) := by
  by_cases hw : s.window = none
  · rcases (evaluateSlot_regraded i s).slots i with h | ⟨m', g, row, st, hm', h⟩
    · exact ⟨m.grade, m.gradeRow, m.state, h.trans hm, fun h => absurd hw h⟩
    · cases hm.symm.trans hm'
      exact ⟨g, row, st, h, fun h => absurd hw h⟩
  · rw [evaluateSlot_of_open hw]
    exact ⟨m.grade, m.gradeRow, m.state, hm, fun _ => ⟨rfl, rfl⟩⟩

/-- Settles O43: the record is cleared, then reported, disturbed, evaluated and reviewed as other figure changes are. -/
theorem clearFiguresEffect : Obligations.ClearFiguresEffect := by
  intro tag slot set s t h named empty
  have hempty : namedFigures set.toNat = [] ↔ empty := namedFigures_eq_nil_iff set.toNat
  have hslots : t.slots = s.slots := by rw [h.1.fields]
  have hrun : t.run = s.run := by rw [h.1.fields]
  have hwindow : t.window = s.window := by rw [h.1.fields]
  refine ⟨fun hr => ?_, fun i hi hne => ?_⟩
  · exact congrArg Host.Outcome.next (runDirective_refused h (by rintro _ ⟨⟩; rfl)
      (clearFiguresRule_of_range (hr.imp_right hempty.2) t))
  have hrule := clearFiguresRule_of_slot hi (mt hempty.1 hne) t
  rw [← hslots, ← hrun, ← hwindow, ← hasUnstruckEntry_congr hrun i]
  refine ⟨fun hs => ?_, fun m hm ha hq => ?_⟩
  · have hnot : ¬ t.slots[i].any isMeasured = true := by
      rw [Option.any_eq_true]
      rintro ⟨m, hm, hmeas⟩
      obtain ⟨ha, hq⟩ := (isMeasured_iff m).1 hmeas
      exact (hs m hm).elim ha fun hq' => Bool.false_ne_true (hq.symm.trans hq')
    exact congrArg Host.Outcome.next (runDirective_refused h (by rintro _ ⟨⟩; rfl) (hrule.trans (if_neg hnot)))
  · let kinds := namedFigures set.toNat
    let told := clearedTold i kinds m t
    let u := clearSlotFigures i kinds t
    have hcap : kinds.contains .cap = true ↔ named 0 = true := by
      rw [List.contains_iff_mem, mem_namedFigures]
      simp [named, FigureKind.code]
    have hu : u = if named 0 = true then reviewTest i (evaluateSlot i told) else evaluateSlot i told := by
      simp only [u, clearSlotFigures_eq hm hq, hcap]
      rfl
    have hmeasured : t.slots[i].any isMeasured = true := by
      rw [hm]
      exact (isMeasured_iff m).2 ⟨ha, hq⟩
    have hslot : told.slots[i] = some { m with
        figures := clearFigures (clearedFigures kinds) m.figures, tracker := Tracker.initial } :=
      (congrArg (·[i]) (requestReport_keeps _ _).1).trans (Vector.getElem_set_self _)
    have hworked : Worked i told u := by
      rw [hu]
      exact .ite ((evaluateSlot_worked i told).trans (reviewTest_worked i _)) (evaluateSlot_worked i told)
    have huslots : u.slots = (evaluateSlot i told).slots := by
      rw [hu]
      split
      · rw [reviewTest_work i (evaluateSlot i told)]
      · rfl
    obtain ⟨g, row, st, hrec, hopen⟩ := evaluateSlot_record hslot
    have htold : told.window = t.window := requestReport_window _ (clearedState i kinds m t)
    have hfig := clearFigures_fields (set := set.toNat) m.figures
    have hall := clearSlotFigures_worked i kinds t
    refine ⟨u, _, ?_, hall.work, (congrArg (·[i]) huslots).trans hrec, hall.others, rfl, rfl, rfl, rfl, rfl, rfl, rfl,
      congrArg Figures.cap hfig, congrArg Figures.soh hfig, congrArg Figures.rdc hfig, congrArg Figures.steps hfig,
      congrArg Figures.sdr hfig, congrArg Figures.tmax hfig, fun hw => hopen (htold ▸ hw), ?_, fun hstruck r hr => ?_,
      figureSet (clearedFigures kinds), figureSet_cleared_bit, hu⟩
    · exact congrArg Host.Outcome.next (runDirective_accepted h (by rintro _ ⟨⟩; rfl) (hrule.trans (if_pos hmeasured)))
    · exact hworked.reported.flags 1 (requestReport_flag (.figure i _) (clearedState i kinds m t) nofun)
    · obtain ⟨d, hd⟩ := hworked.run
      rw [hr] at hd
      have htoldrun : told.run = t.run.map fun r => { r with disturbed := r.disturbed || hasUnstruckEntry t i } := rfl
      rw [htoldrun, Option.map_map] at hd
      obtain ⟨r0, -, rfl⟩ := Option.map_eq_some_iff.1 hd.symm
      simp [hstruck]

end Sys2Proof.Machine
end

section
/-! SUPPORT. The store: the valid marks, what a save, a load and a certify do; the proof of O51. -/

namespace Sys2Proof.Machine

/-! ## Marks in a number -/

/-- The number whose bits are the marks, the first mark lowest. -/
def markBits : List Bool → Nat
  | [] => 0
  | b :: bs => b.toNat + 2 * markBits bs

theorem markBits_cons (b : Bool) (bs : List Bool) : markBits (b :: bs) = Nat.bit b (markBits bs) := by
  rw [markBits, Nat.bit_val, Nat.add_comm]

theorem markBit_eq (n : Nat) (b : Bool) : markBit n b = 2 ^ n * b.toNat := by
  cases b <;> simp [markBit]

theorem testBit_markBits (bs : List Bool) (k : Nat) : (markBits bs).testBit k = bs.getD k false := by
  induction bs generalizing k with
  | nil => simp [markBits]
  | cons b bs ih =>
    cases k with
    | zero => rw [markBits_cons, Nat.testBit_bit_zero, List.getD_cons_zero]
    | succ k => rw [markBits_cons, Nat.testBit_bit_succ, ih, List.getD_cons_succ]

theorem markBits_lt (bs : List Bool) : markBits bs < 2 ^ bs.length := by
  induction bs with
  | nil => simp [markBits]
  | cons b bs ih =>
    rw [markBits, List.length_cons, Nat.pow_succ]
    have hb := Bool.toNat_lt b
    omega

/-! ## The valid marks (R166) -/

/-- The valid marks of the ten images in their order. -/
def marksOf (st : ImageStore) : List Bool :=
  [st.identity.isSome, st.settings.isSome, st.profiles.isSome, st.slotMap.isSome, st.bank.isSome, st.grades[0].isSome,
    st.grades[1].isSome, st.grades[2].isSome, st.grades[3].isSome, st.install.isSome]

theorem validMarks_bit (st : ImageStore) (k : Nat) : (validMarks st).getLsbD k = (marksOf st).getD k false := by
  have hnum : validMarks st = BitVec.ofNat 10 (markBits (marksOf st)) := by
    simp only [validMarks, marksOf, markBit_eq, markBits]
    ring_nf
  rw [hnum, BitVec.getLsbD_ofNat, testBit_markBits]
  by_cases hk : k < 10
  · rw [decide_eq_true hk, Bool.true_and]
  · rw [decide_eq_false hk, Bool.false_and, List.getD_eq_default]
    exact Nat.not_lt.1 hk

theorem marksOf_eraseImage (c : SavedContent) (st : ImageStore) :
    marksOf (eraseImage c st) = (marksOf st).set c.image false := by
  cases c with
  | grades g v => match g with | 0 | 1 | 2 | 3 => simp [marksOf, eraseImage, SavedContent.image]
  | _ => rfl

theorem marksOf_writeImage (c : SavedContent) (st : ImageStore) :
    marksOf (writeImage c st) = (marksOf st).set c.image true := by
  cases c with
  | grades g v => match g with | 0 | 1 | 2 | 3 => simp [marksOf, writeImage, SavedContent.image]
  | _ => rfl

theorem image_lt (c : SavedContent) : c.image < 10 := by
  cases c with
  | grades g v => exact Nat.lt_of_lt_of_le (Nat.add_lt_add_right g.isLt 5) (by decide)
  | _ => simp only [SavedContent.image, Nat.reduceLT]

theorem getD_set_self (l : List Bool) {k : Nat} (b : Bool) (hk : k < l.length) : (l.set k b).getD k false = b := by
  simp [List.getD_eq_getElem?_getD, hk]

theorem getD_set_other (l : List Bool) {k j : Nat} (b : Bool) (h : j ≠ k) : (l.set k b).getD j false = l.getD j false := by
  simp [List.getD_eq_getElem?_getD, Ne.symm h]

/-- The images other than one keep content and marks (R166). -/
def OthersKept (k : Nat) (old st : ImageStore) : Prop :=
  st.identity = old.identity ∧ (k ≠ 1 → st.settings = old.settings) ∧ (k ≠ 2 → st.profiles = old.profiles) ∧
    (k ≠ 3 → st.slotMap = old.slotMap) ∧ (k ≠ 4 → st.bank = old.bank) ∧ (k ≠ 9 → st.install = old.install) ∧
    ∀ g : GradeImage, k ≠ g.val + 5 → st.grades[g] = old.grades[g] ∧ st.certified[g] = old.certified[g]

theorem getElem_set_other {α : Type} (v : Vector α 4) {g j : GradeImage} (x : α) (h : g.val + 5 ≠ j.val + 5) :
    (v.set g x)[j] = v[j] := by
  rw [Fin.getElem_fin, Vector.getElem_set_ne _ _ (fun e => h (by omega))]
  rfl

theorem eraseImage_others (c : SavedContent) (st : ImageStore) : OthersKept c.image st (eraseImage c st) := by
  cases c with
  | grades g v =>
    exact ⟨rfl, fun _ => rfl, fun _ => rfl, fun _ => rfl, fun _ => rfl, fun _ => rfl,
      fun j h => ⟨getElem_set_other _ _ h, rfl⟩⟩
  | settings v => exact ⟨rfl, absurd rfl, fun _ => rfl, fun _ => rfl, fun _ => rfl, fun _ => rfl, fun j _ => ⟨rfl, rfl⟩⟩
  | profiles v => exact ⟨rfl, fun _ => rfl, absurd rfl, fun _ => rfl, fun _ => rfl, fun _ => rfl, fun j _ => ⟨rfl, rfl⟩⟩
  | slotMap v => exact ⟨rfl, fun _ => rfl, fun _ => rfl, absurd rfl, fun _ => rfl, fun _ => rfl, fun j _ => ⟨rfl, rfl⟩⟩
  | bank v => exact ⟨rfl, fun _ => rfl, fun _ => rfl, fun _ => rfl, absurd rfl, fun _ => rfl, fun j _ => ⟨rfl, rfl⟩⟩
  | install v => exact ⟨rfl, fun _ => rfl, fun _ => rfl, fun _ => rfl, fun _ => rfl, absurd rfl, fun j _ => ⟨rfl, rfl⟩⟩

theorem writeImage_others (c : SavedContent) (st : ImageStore) : OthersKept c.image st (writeImage c st) := by
  cases c with
  | grades g v =>
    exact ⟨rfl, fun _ => rfl, fun _ => rfl, fun _ => rfl, fun _ => rfl, fun _ => rfl,
      fun j h => ⟨getElem_set_other _ _ h, getElem_set_other _ _ h⟩⟩
  | settings v => exact ⟨rfl, absurd rfl, fun _ => rfl, fun _ => rfl, fun _ => rfl, fun _ => rfl, fun j _ => ⟨rfl, rfl⟩⟩
  | profiles v => exact ⟨rfl, fun _ => rfl, absurd rfl, fun _ => rfl, fun _ => rfl, fun _ => rfl, fun j _ => ⟨rfl, rfl⟩⟩
  | slotMap v => exact ⟨rfl, fun _ => rfl, fun _ => rfl, absurd rfl, fun _ => rfl, fun _ => rfl, fun j _ => ⟨rfl, rfl⟩⟩
  | bank v => exact ⟨rfl, fun _ => rfl, fun _ => rfl, fun _ => rfl, absurd rfl, fun _ => rfl, fun j _ => ⟨rfl, rfl⟩⟩
  | install v => exact ⟨rfl, fun _ => rfl, fun _ => rfl, fun _ => rfl, fun _ => rfl, absurd rfl, fun j _ => ⟨rfl, rfl⟩⟩

theorem eraseImage_certified (c : SavedContent) (st : ImageStore) : (eraseImage c st).certified = st.certified := by
  cases c <;> rfl

/-! ## Grade images -/

theorem gradeImage_eq_some_iff (n : Nat) (g : GradeImage) : gradeImage n = some g ↔ n = g.val + 5 := by
  unfold gradeImage
  split
  · rw [Option.some.injEq, Fin.ext_iff]
    simp only
    omega
  · simp only [reduceCtorEq, false_iff]
    omega

theorem imageCertified_iff (st : ImageStore) (n : Nat) :
    imageCertified st n = true ↔ ∃ g : GradeImage, n = g.val + 5 ∧ st.certified[g] = true := by
  unfold imageCertified
  cases h : gradeImage n with
  | none =>
    simp only [Bool.false_eq_true, false_iff]
    rintro ⟨g, hg, -⟩
    rw [(gradeImage_eq_some_iff n g).2 hg] at h
    cases h
  | some g =>
    refine ⟨fun hc => ⟨g, (gradeImage_eq_some_iff n g).1 h, hc⟩, fun ⟨j, hj, hc⟩ => ?_⟩
    rw [(gradeImage_eq_some_iff n j).2 hj] at h
    cases h
    exact hc

theorem isGradeImage_iff (n : Nat) : isGradeImage n = true ↔ 5 ≤ n ∧ n ≤ 8 := by
  unfold isGradeImage gradeImage
  split <;> simp_all

/-! ## STORE SAVE (R168, R169) -/

/-- The content that image `n` takes from the working state as it stands (R168). -/
def Copies (s : State) (n : Nat) (c : SavedContent) : Prop :=
  (n = 1 ∧ c = .settings s.settings) ∨ (n = 2 ∧ c = .profiles { profiles := s.profiles, curves := s.curves }) ∨
    (n = 3 ∧ c = .slotMap s.slotMap) ∨ (n = 4 ∧ c = .bank s.bank) ∨
    (∃ g : GradeImage, n = g.val + 5 ∧ c = .grades g s.rows) ∨
    (n = 9 ∧ c = .install { bank := s.bank, records := (fixedPositions s).map (installRecordOf s) })

theorem exists_content (s : State) (n : Nat) (h0 : n ≠ 0) (h9 : n ≤ 9) :
    ∃ c, contentFor s n = some c ∧ c.image = n ∧ Copies s n c :=
  match n with
  | 0 => absurd rfl h0
  | 1 => ⟨_, rfl, rfl, .inl ⟨rfl, rfl⟩⟩
  | 2 => ⟨_, rfl, rfl, .inr (.inl ⟨rfl, rfl⟩)⟩
  | 3 => ⟨_, rfl, rfl, .inr (.inr (.inl ⟨rfl, rfl⟩))⟩
  | 4 => ⟨_, rfl, rfl, .inr (.inr (.inr (.inl ⟨rfl, rfl⟩)))⟩
  | 5 => ⟨_, rfl, rfl, .inr (.inr (.inr (.inr (.inl ⟨0, rfl, rfl⟩))))⟩
  | 6 => ⟨_, rfl, rfl, .inr (.inr (.inr (.inr (.inl ⟨1, rfl, rfl⟩))))⟩
  | 7 => ⟨_, rfl, rfl, .inr (.inr (.inr (.inr (.inl ⟨2, rfl, rfl⟩))))⟩
  | 8 => ⟨_, rfl, rfl, .inr (.inr (.inr (.inr (.inl ⟨3, rfl, rfl⟩))))⟩
  | 9 => ⟨_, rfl, rfl, .inr (.inr (.inr (.inr (.inr ⟨rfl, rfl⟩))))⟩
  | n + 10 => absurd h9 (by omega)

section
variable {tag : Byte} {code : Nat} {params : List Byte} {s t : State} {rule : State → Reply State}

theorem runDirective_latched {b : Bool} {o : AnswerOutcome} (h : Heard tag code params s t)
    (hl : ∀ n, parameterLength code = some (some n) → params.length = n) (hr : rule t = refuseLatched o t) :
    runDirective tag code params b rule s = answered tag code o [] { t with latch := false } := by
  rw [runDirective_heard b rule h hl, hr]
  rfl

end

/-- Settles O51: the refusals of R168 in their order; one image loses or takes its mark, and no other is touched. -/
theorem saveAndCompletion : Obligations.SaveAndCompletion := by
  intro tag image s t n grade locked copied latchless othersKept
  refine ⟨fun h => ?_, fun c hc => ?_⟩
  · obtain ⟨q, k, b, rfl⟩ := h.1.eq_taken
    have hlocked : (n = 0 ∨ imageCertified s.store n = true) ↔ locked := or_congr_right (imageCertified_iff s.store n)
    have unlocked : ¬ locked → ¬ (n = 0 ∨ imageCertified s.store n = true) := mt hlocked.1
    have latched : s.latch = true → ¬ s.latch = false := fun h => by simp [h]
    have idle : s.storeWork = none → ¬ s.storeWork.isSome = true := fun h => by simp [h]
    have low : n ≤ 9 → ¬ 9 < n := Nat.not_lt.2
    have len : ∀ m, parameterLength 66 = some (some m) → [image].length = m := by rintro _ ⟨⟩; rfl
    refine ⟨fun h9 => ?_, fun h9 hl => ?_, fun h9 hl hk => ?_, fun h9 hl hk hw => ?_, fun hl hk hw h5 h8 ho => ?_,
      fun h9 hl hk hw ho => ?_⟩
    · exact congrArg Host.Outcome.next (runDirective_latched h len (if_pos h9))
    · exact congrArg Host.Outcome.next (runDirective_latched h len ((if_neg (low h9)).trans (if_pos hl)))
    · exact congrArg Host.Outcome.next (runDirective_latched h len
        ((if_neg (low h9)).trans ((if_neg (latched hl)).trans (if_pos (hlocked.2 hk)))))
    · have busy : s.storeWork.isSome = true := Option.isSome_iff_ne_none.2 hw
      exact congrArg Host.Outcome.next (runDirective_latched h len
        ((if_neg (low h9)).trans ((if_neg (latched hl)).trans ((if_neg (unlocked hk)).trans (if_pos busy)))))
    · have open_ : isGradeImage n = true ∧ s.window.isSome = true :=
        ⟨(isGradeImage_iff n).2 ⟨h5, h8⟩, Option.isSome_iff_ne_none.2 ho⟩
      exact congrArg Host.Outcome.next (runDirective_latched h len ((if_neg (low (by omega))).trans
        ((if_neg (latched hl)).trans ((if_neg (unlocked hk)).trans ((if_neg (idle hw)).trans (if_pos open_))))))
    · have closed : ¬ (isGradeImage n = true ∧ s.window.isSome = true) := by
        rw [isGradeImage_iff, Option.isSome_iff_ne_none]
        rintro ⟨hn, hne⟩
        rcases ho with ho | ho | ho
        · omega
        · omega
        · exact hne ho
      have hn0 : n ≠ 0 := fun h => hk (.inl h)
      obtain ⟨c, hc, hcn, hcopied⟩ := exists_content s n hn0 h9
      have hmarks : ∀ k, (validMarks (eraseImage c s.store)).getLsbD k = ((marksOf s.store).set n false).getD k false :=
        fun k => by rw [validMarks_bit, marksOf_eraseImage, hcn]
      refine ⟨c, eraseImage c s.store, hcopied, ?_, ?_, eraseImage_certified c s.store, hcn ▸ eraseImage_others c s.store,
        fun k hk => ?_⟩
      · have hsave : ∀ t : State, contentFor t n = some c → (match contentFor t n with
            | none => refuseLatched .range t
            | some c => accept (beginSave c t)) = accept (beginSave c t) := fun t ht => by rw [ht]
        exact congrArg Host.Outcome.next (runDirective_accepted h len ((if_neg (low h9)).trans ((if_neg (latched hl)).trans
          ((if_neg (unlocked hk)).trans ((if_neg (idle hw)).trans ((if_neg closed).trans (hsave _ hc)))))))
      · rw [hmarks, getD_set_self]
        exact Nat.lt_succ_of_le h9
      · rw [hmarks, getD_set_other _ _ hk, validMarks_bit]
  · have hmarks : ∀ k, (validMarks (writeImage c s.store)).getLsbD k = ((marksOf s.store).set c.image true).getD k false :=
      fun k => by rw [validMarks_bit, marksOf_writeImage]
    refine ⟨writeImage c s.store, ?_, ?_, writeImage_others c s.store, fun k hk => ?_, ?_, ?_, ?_, ?_, ?_, ?_⟩
    · change execSaveCompletion s = _
      simp only [execSaveCompletion, hc]
    · rw [hmarks, getD_set_self]
      exact image_lt c
    · rw [hmarks, getD_set_other _ _ hk, validMarks_bit]
    · rintro v rfl; rfl
    · rintro v rfl; rfl
    · rintro v rfl; rfl
    · rintro v rfl; rfl
    · rintro v rfl; rfl
    · rintro g v rfl
      exact ⟨Vector.getElem_set_self _, Vector.getElem_set_self _⟩

end Sys2Proof.Machine
end

section
/-! SUPPORT. STORE LOAD and CERTIFY; the proofs of O52 and O53. -/

namespace Sys2Proof.Machine

/-! ## What a load puts into force (R170) -/

section
variable {s : State}

/-- The entry of the slot map changes between two maps and names the slot in one of them (R17). -/
def EntryMoved (old new : Vector (Option SlotNo) 128) (i : SlotNo) (k : Fin 128) : Prop :=
  new[k] ≠ old[k] ∧ (new[k] = some i ∨ old[k] = some i)

/-- The resets of one entry of a loaded slot map (R17). -/
def resetMoved (old new : Vector (Option SlotNo) 128) (t : State) (k : Fin 128) : State :=
  if new[k] = old[k] then t else resetNamed new[k] (resetNamed old[k] t)

theorem resetMoved_eq (old new : Vector (Option SlotNo) 128) (t : State) (k : Fin 128) :
    resetMoved old new t k = { t with slots := (resetMoved old new t k).slots } := by
  unfold resetMoved
  split
  · rfl
  · rw [resetNamed_eq new[k], resetNamed_eq old[k]]

theorem resetMoved_of_moved {old new : Vector (Option SlotNo) 128} {i : SlotNo} {k : Fin 128}
    (h : EntryMoved old new i k) (t : State) : (resetMoved old new t k).slots[i] = t.slots[i].map resetTracker := by
  obtain ⟨hne, hnamed⟩ := h
  rw [resetMoved, if_neg hne, resetNamed_slot, resetNamed_slot]
  split
  · split
    · rw [map_resetTracker_idem]
    · rfl
  · next hnew => rw [if_pos (hnamed.resolve_left hnew)]

theorem resetMoved_of_unmoved {old new : Vector (Option SlotNo) 128} {i : SlotNo} {k : Fin 128}
    (h : ¬ EntryMoved old new i k) (t : State) : (resetMoved old new t k).slots[i] = t.slots[i] := by
  unfold resetMoved
  split
  · rfl
  · next hne =>
    have hnamed : ¬ (new[k] = some i ∨ old[k] = some i) := fun hn => h ⟨hne, hn⟩
    rw [resetNamed_slot, if_neg fun hn => hnamed (.inl hn), resetNamed_slot, if_neg fun ho => hnamed (.inr ho)]

theorem foldl_resetMoved_eq (old new : Vector (Option SlotNo) 128) (l : List (Fin 128)) (t : State) :
    l.foldl (resetMoved old new) t = { t with slots := (l.foldl (resetMoved old new) t).slots } := by
  induction l generalizing t with
  | nil => rfl
  | cons k l ih =>
    rw [List.foldl_cons, ih, resetMoved_eq]

theorem foldl_resetMoved_of_moved {old new : Vector (Option SlotNo) 128} {i : SlotNo} {l : List (Fin 128)}
    (h : ∃ k ∈ l, EntryMoved old new i k) (t : State) :
    (l.foldl (resetMoved old new) t).slots[i] = t.slots[i].map resetTracker := by
  classical
  induction l generalizing t with
  | nil => obtain ⟨k, hk, -⟩ := h; cases hk
  | cons k l ih =>
    rw [List.foldl_cons]
    by_cases hl : ∃ k ∈ l, EntryMoved old new i k
    · rw [ih hl]
      by_cases hk : EntryMoved old new i k
      · rw [resetMoved_of_moved hk, map_resetTracker_idem]
      · rw [resetMoved_of_unmoved hk]
    · have hkeep : ∀ u : State, (l.foldl (resetMoved old new) u).slots[i] = u.slots[i] := fun u =>
        List.foldlRecOn (motive := fun v : State => v.slots[i] = u.slots[i]) l _ rfl fun v hv j hj =>
          (resetMoved_of_unmoved (fun hm => hl ⟨j, hj, hm⟩) v).trans hv
      rw [hkeep]
      obtain ⟨j, hj, hm⟩ := h
      rcases List.mem_cons.1 hj with rfl | hj
      · exact resetMoved_of_moved hm t
      · exact absurd ⟨j, hj, hm⟩ hl

theorem foldl_resetMoved_of_unmoved {old new : Vector (Option SlotNo) 128} {i : SlotNo} (l : List (Fin 128))
    (h : ∀ k, ¬ EntryMoved old new i k) (t : State) : (l.foldl (resetMoved old new) t).slots[i] = t.slots[i] :=
  List.foldlRecOn (motive := fun v : State => v.slots[i] = t.slots[i]) l _ rfl fun v hv j _ =>
    (resetMoved_of_unmoved (h j) v).trans hv

theorem loadSlotMap_eq (map : Vector (Option SlotNo) 128) (s : State) :
    loadSlotMap map s = (List.finRange 128).foldl (resetMoved s.slotMap map) { s with slotMap := map } := rfl

theorem loadImage_bank {c : BankMap} (h : s.store.bank = some c) :
    loadImage 4 s = resetPlan { s with bank := c } := by
  simp only [loadImage, h]

theorem loadGrades_eq (g : GradeImage) (rows : GradeTable) (s : State) :
    loadGrades g rows s = (List.finRange 64).foldl (fun u i => evaluateSlot i u)
      { s with rows := rows, origin := some g, modified := false } := rfl

theorem loadImage_grades {g : GradeImage} {rows : GradeTable} (h : s.store.grades[g] = some rows) :
    loadImage (g.val + 5) s = (List.finRange 64).foldl (fun u i => evaluateSlot i u)
      { s with rows := rows, origin := some g, modified := false } := by
  unfold loadImage
  split <;> [omega; omega; omega; omega; skip]
  rw [gradeImage_add]
  simp only [h]
  exact loadGrades_eq g rows s

/-! ## STORE LOAD (R170) -/

theorem storeLoadRule_of_number {image : Byte} {n : Nat} (hn : image.toNat = n) (t : State) : storeLoadRule [image] t =
    if n < 1 ∨ 8 < n then refuse .range t
    else if t.storeWork.isSome then refuse .busy t
    else if imageValid t.store n = false then refuse .invalidImage t
    else if 4 ≤ n ∧ t.run.isSome then refuse .busy t
    else if isGradeImage n ∧ t.window.isSome then refuse .edit t
    else if n = 4 ∧ anyFixed t = true then refuse .fixed t
    else accept (loadImage n t) := by
  subst hn
  rfl

/-- A load that meets none of the refusals of R170 is carried out. -/
theorem storeLoadRule_of_passing {image : Byte} {n : Nat} {t : State} (hn : image.toNat = n) (hmin : 1 ≤ n) (hmax : n ≤ 8)
    (hw : t.storeWork = none) (hv : imageValid t.store n = true) (hr : n < 4 ∨ t.run = none)
    (he : n < 5 ∨ t.window = none) (hf : n ≠ 4 ∨ anyFixed t = false) :
    storeLoadRule [image] t = accept (loadImage n t) := by
  have hrun : ¬ (4 ≤ n ∧ t.run.isSome = true) := fun ⟨h4, hsome⟩ => hr.elim (by omega) fun h => by simp [h] at hsome
  have hedit : ¬ (isGradeImage n = true ∧ t.window.isSome = true) := fun ⟨h5, hsome⟩ =>
    he.elim (fun h => by have := ((isGradeImage_iff n).1 h5).1; omega) fun h => by simp [h] at hsome
  have hfixed : ¬ (n = 4 ∧ anyFixed t = true) := fun ⟨h4, hany⟩ => hf.elim (fun h => h h4) fun h => by simp [h] at hany
  rw [storeLoadRule_of_number hn, if_neg (by omega), if_neg (by simp [hw]), if_neg (by simp [hv]), if_neg hrun,
    if_neg hedit, if_neg hfixed]

theorem imageValid_eq (st : ImageStore) (n : Nat) : imageValid st n = (marksOf st).getD n false := validMarks_bit st n

theorem imageValid_grades {st : ImageStore} {g : GradeImage} {rows : GradeTable} (h : st.grades[g] = some rows) :
    imageValid st (g.val + 5) = true := by
  rw [imageValid_eq]
  match g with
  | 0 | 1 | 2 | 3 => exact Option.isSome_iff_exists.2 ⟨rows, h⟩

theorem resetAllSegments_eq (s : State) :
    resetAllSegments s = { s with slots := Vector.ofFn fun i => s.slots[i].map resetTracker } := rfl

end

/-- Settles O52: the refusals of R170 in their order, and each image by what `loadImage` does with it. -/
theorem loadByOrder : Obligations.LoadByOrder := by
  intro tag image s t h n run valid fixed free
  have hwork : t.storeWork = s.storeWork := by rw [h.1.fields]
  have hstore : t.store = s.store := by rw [h.1.fields]
  have hrun : t.run = s.run := by rw [h.1.fields]
  have hwindow : t.window = s.window := by rw [h.1.fields]
  have hplaces : t.places = s.places := by rw [h.1.fields]
  have hslots : t.slots = s.slots := by rw [h.1.fields]
  have hmap : t.slotMap = s.slotMap := by rw [h.1.fields]
  have hfixed : anyFixed t = true ↔ fixed := by
    rw [anyFixed_iff, hplaces]
  have len : ∀ m, parameterLength 67 = some (some m) → [image].length = m := by rintro _ ⟨⟩; rfl
  have hrule := storeLoadRule_of_number (image := image) rfl t
  have refused : ∀ o, storeLoadRule [image] t = refuse o t → run = .next (answered tag 67 o [] t) := fun o ho =>
    congrArg Host.Outcome.next (runDirective_refused h len ho)
  have loads : ∀ k u, n = k → 1 ≤ k → k ≤ 8 → s.storeWork = none → imageValid t.store k = true →
      (k < 4 ∨ s.run = none) → (k < 5 ∨ s.window = none) → (k ≠ 4 ∨ ¬ fixed) → loadImage k t = u →
      run = .next (answered tag 67 .done [] u) := fun k u hk hmin hmax hw hv hr he hf hu =>
    congrArg Host.Outcome.next (runDirective_accepted h len (hu ▸ storeLoadRule_of_passing hk hmin hmax (hwork.trans hw)
      hv (hr.imp_right hrun.trans) (he.imp_right hwindow.trans)
      (hf.imp_right fun hf => Bool.eq_false_iff.2 (mt hfixed.1 hf))))
  have within : 1 ≤ n → n ≤ 8 → ¬ (n < 1 ∨ 8 < n) := by omega
  have idle : s.storeWork = none → ¬ t.storeWork.isSome = true := fun hw => by simp [hwork, hw]
  have good : valid → ¬ imageValid t.store n = false := fun hv => by
    rw [hstore]
    exact Bool.eq_false_iff.not_left.2 hv
  refine ⟨fun hr => ?_, fun hmin hmax hw => ?_, fun ⟨hmin, hmax, hw⟩ hv => ?_, fun ⟨hmin, hmax, hw⟩ hv h4 hr => ?_,
    fun ⟨hmin, hmax, hw⟩ hv h5 hr ho => ?_, fun ⟨hmin, hmax, hw⟩ hv h4 hr hf => ?_, fun c hw hn hc => ?_,
    fun c hw hn hc => ?_, fun stored hw hn hc => ?_, fun c hw hn hc hr hf => ?_, fun g rows hw hn hg hr ho => ?_⟩
  · exact refused _ (hrule.trans (if_pos hr))
  · have busy : t.storeWork.isSome = true := Option.isSome_iff_ne_none.2 (hwork ▸ hw)
    exact refused _ (hrule.trans ((if_neg (within hmin hmax)).trans (if_pos busy)))
  · have bad : imageValid t.store n = false := by
      rw [hstore]
      exact Bool.eq_false_iff.2 hv
    exact refused _ (hrule.trans ((if_neg (within hmin hmax)).trans ((if_neg (idle hw)).trans (if_pos bad))))
  · have busy : 4 ≤ n ∧ t.run.isSome = true := ⟨h4, Option.isSome_iff_ne_none.2 (hrun ▸ hr)⟩
    exact refused _ (hrule.trans ((if_neg (within hmin hmax)).trans ((if_neg (idle hw)).trans ((if_neg (good hv)).trans
      (if_pos busy)))))
  · have norun : ¬ (4 ≤ n ∧ t.run.isSome = true) := by simp [hrun, hr]
    have open_ : isGradeImage n = true ∧ t.window.isSome = true :=
      ⟨(isGradeImage_iff n).2 ⟨h5, hmax⟩, Option.isSome_iff_ne_none.2 (hwindow ▸ ho)⟩
    exact refused _ (hrule.trans ((if_neg (within hmin hmax)).trans ((if_neg (idle hw)).trans ((if_neg (good hv)).trans
      ((if_neg norun).trans (if_pos open_))))))
  · have norun : ¬ (4 ≤ n ∧ t.run.isSome = true) := by simp [hrun, hr]
    have ungraded : ¬ (isGradeImage n = true ∧ t.window.isSome = true) := fun ⟨hg, _⟩ => by
      have := ((isGradeImage_iff n).1 hg).1
      omega
    exact refused _ (hrule.trans ((if_neg (within hmin hmax)).trans ((if_neg (idle hw)).trans ((if_neg (good hv)).trans
      ((if_neg norun).trans ((if_neg ungraded).trans (if_pos ⟨h4, hfixed.2 hf⟩)))))))
  · rw [← hstore] at hc
    have hv : imageValid t.store 1 = true := (imageValid_eq _ _).trans (Option.isSome_iff_exists.2 ⟨c, hc⟩)
    exact loads 1 _ hn (by decide) (by decide) hw hv (.inl (by decide)) (.inl (by decide)) (.inl (by decide))
      (by simp only [loadImage, hc])
  · rw [← hstore] at hc
    have hv : imageValid t.store 2 = true := (imageValid_eq _ _).trans (Option.isSome_iff_exists.2 ⟨c, hc⟩)
    refine ⟨Vector.ofFn fun i => t.slots[i].map resetTracker, loads 2 _ hn (by decide) (by decide) hw hv
      (.inl (by decide)) (.inl (by decide)) (.inl (by decide)) ?_, fun i => ?_⟩
    · simp only [loadImage, hc]
      exact resetAllSegments_eq _
    · rw [← hslots]
      exact Vector.getElem_ofFn _
  · rw [← hstore] at hc
    have hv : imageValid t.store 3 = true := (imageValid_eq _ _).trans (Option.isSome_iff_exists.2 ⟨stored, hc⟩)
    let u := (List.finRange 128).foldl (resetMoved t.slotMap stored) { t with slotMap := stored }
    have hu : u = { t with slotMap := stored, slots := u.slots } := foldl_resetMoved_eq _ _ _ _
    refine ⟨u.slots, loads 3 _ hn (by decide) (by decide) hw hv (.inl (by decide)) (.inl (by decide)) (.inl (by decide)) ?_,
      ?_⟩
    · simp only [loadImage, hc]
      exact (loadSlotMap_eq stored t).trans hu
    · rw [← hslots, ← hmap]
      exact fun i => ⟨fun ⟨k, hk⟩ => foldl_resetMoved_of_moved ⟨k, List.mem_finRange k, hk⟩ _,
        fun hall => foldl_resetMoved_of_unmoved _ (fun k ⟨hne, hnamed⟩ =>
          (hall k).elim hne fun ⟨h1, h2⟩ => hnamed.elim h1 h2) _⟩
  · rw [← hstore] at hc
    have hv : imageValid t.store 4 = true := (imageValid_eq _ _).trans (Option.isSome_iff_exists.2 ⟨c, hc⟩)
    exact loads 4 _ hn (by decide) (by decide) hw hv (.inr hr) (.inl (by decide)) (.inr hf) (loadImage_bank hc)
  · rw [← hstore] at hg
    exact loads (g.val + 5) _ hn (by omega) (by omega) hw (imageValid_grades hg) (.inr hr) (.inr ho) (.inl (by omega))
      (loadImage_grades hg)

/-! ## CERTIFY (R171) -/

theorem certifyRule_of_grade {image : Byte} {g : GradeImage} {t : State} (hl : t.latch = true)
    (hg : image.toNat = g.val + 5) : certifyRule [image] t =
      if t.storeWork.isSome then refuseLatched .busy t
      else if t.store.grades[g].isNone then refuseLatched .invalidImage t
      else accept { t with storeWork := some (.certify g) } := by
  have himage : gradeImage (byteAt [image] 0) = some g := (gradeImage_eq_some_iff _ g).2 hg
  have hzero : ¬ byteAt [image] 0 = 0 := fun h0 => by
    have h0' : image.toNat = 0 := h0
    omega
  simp only [certifyRule, hl, Bool.true_eq_false, if_false, if_neg hzero, himage]

theorem certifyRule_of_other {image : Byte} {t : State} (hl : t.latch = true) (h0 : image.toNat ≠ 0)
    (hn : image.toNat < 5 ∨ 8 < image.toNat) : certifyRule [image] t = refuseLatched .range t := by
  have himage : gradeImage (byteAt [image] 0) = none := dif_neg fun ⟨h5, h8⟩ => hn.elim (Nat.not_lt.2 h5) (Nat.not_lt.2 h8)
  have hzero : ¬ byteAt [image] 0 = 0 := h0
  simp only [certifyRule, hl, Bool.true_eq_false, if_false, if_neg hzero, himage]

/-- Settles O53: the refusals of R171 in their order, and the mark that the completion sets. -/
theorem certifyAndCompletion : Obligations.CertifyAndCompletion := by
  intro tag image s t n latchless
  refine ⟨fun h => ?_, fun g hg => ?_⟩
  · have hlatch : t.latch = s.latch := by rw [h.1.fields]
    have hwork : t.storeWork = s.storeWork := by rw [h.1.fields]
    have hstore : t.store = s.store := by rw [h.1.fields]
    rw [← hlatch, ← hwork, ← hstore]
    have len : ∀ m, parameterLength 68 = some (some m) → [image].length = m := by rintro _ ⟨⟩; rfl
    have latched : t.latch = true → ¬ t.latch = false := fun h => by simp [h]
    refine ⟨fun hl => ?_, fun hl h0 => ?_, fun hl h0 hn => ?_, fun g hl hg => ⟨fun hw => ?_, fun hw hv => ?_, fun hw hv => ?_⟩⟩
    · exact congrArg Host.Outcome.next (runDirective_latched h len (if_pos hl))
    · exact congrArg Host.Outcome.next (runDirective_latched h len ((if_neg (latched hl)).trans (if_pos h0)))
    · exact congrArg Host.Outcome.next (runDirective_latched h len (certifyRule_of_other hl h0 hn))
    · exact congrArg Host.Outcome.next (runDirective_latched h len
        ((certifyRule_of_grade hl hg).trans (if_pos (Option.isSome_iff_ne_none.2 hw))))
    · have idle : ¬ t.storeWork.isSome = true := by simp [hw]
      exact congrArg Host.Outcome.next (runDirective_latched h len
        ((certifyRule_of_grade hl hg).trans ((if_neg idle).trans (if_pos (Option.isNone_iff_eq_none.2 hv)))))
    · have idle : ¬ t.storeWork.isSome = true := by simp [hw]
      exact congrArg Host.Outcome.next (runDirective_accepted h len
        ((certifyRule_of_grade hl hg).trans ((if_neg idle).trans (if_neg (mt Option.isNone_iff_eq_none.1 hv)))))
  · change execCertifyCompletion s = _
    simp only [execCertifyCompletion, hg]
    rfl

end Sys2Proof.Machine
end

section
/-! SUPPORT. The choice for a position and the opening and filling steps of a run; the proofs of O46 and O47. -/

namespace Sys2Proof.Machine

/-! ## The choice for a position (R121, R122) -/

section
variable {b : BankString} {ref : Option Nat}

/-- A key lies within tolerance of the reference, when one is set (R102, R121). -/
def KeyWithin (b : BankString) (ref : Option Nat) (key : Nat) : Prop :=
  ∀ r : Nat, ref = some r → ((key : Int) - r).natAbs * 1000 ≤ b.capTolerance * r

/-- The partner `c` is accepted for `a` (R122). -/
def PartnerAccepted (b : BankString) (ref : Option Nat) (a c : Candidate) : Prop :=
  candidateEligible b c = true ∧
    (∃ x y, a.rdc = some x ∧ c.rdc = some y ∧ x ≤ y + b.pairTolerance ∧ y ≤ x + b.pairTolerance) ∧
    KeyWithin b ref (a.cap + c.cap)

/-- The candidate can be the outer one of a pair (R122). -/
def OuterEligible (b : BankString) (a : Candidate) : Prop := candidateEligible b a = true ∧ a.rdc ≠ none

/-- Every outer candidate of `pre` has found no partner after it, in a list that goes on with `tail` (R122). -/
def Passed (b : BankString) (ref : Option Nat) (pre tail : List Candidate) : Prop :=
  ∀ p x q, pre = p ++ x :: q → OuterEligible b x → ∀ y ∈ q ++ tail, ¬ PartnerAccepted b ref x y

theorem fitsReference_iff (key : Nat) : fitsReference b ref key = true ↔ KeyWithin b ref key := by
  unfold fitsReference KeyWithin
  cases ref with
  | none => exact ⟨fun _ => nofun, fun _ => rfl⟩
  | some r =>
    refine (withinTolerance_iff key r b.capTolerance).trans ⟨fun h r' e => ?_, fun h => h r rfl⟩
    cases e
    exact h

theorem distance_le_iff (x y d : Nat) : distance x y ≤ d ↔ x ≤ y + d ∧ y ≤ x + d := by
  unfold distance
  split <;> omega

theorem pairFits_iff (a c : Candidate) : pairFits b ref a c = true ↔ PartnerAccepted b ref a c := by
  unfold pairFits PartnerAccepted
  split
  · next x y hx hy =>
    rw [Bool.and_eq_true, Bool.and_eq_true, decide_eq_true_iff, distance_le_iff, fitsReference_iff, and_assoc, hx, hy]
    exact and_congr_right fun _ => and_congr_left fun _ =>
      ⟨fun h => ⟨x, y, rfl, rfl, h⟩, fun ⟨_, _, ex, ey, h⟩ => Option.some.inj ex ▸ Option.some.inj ey ▸ h⟩
  · next hnone => exact ⟨nofun, fun ⟨_, ⟨x, y, hx, hy, _⟩, _⟩ => absurd hy (hnone x y hx)⟩

theorem pairFits_eq_false_iff (a c : Candidate) : pairFits b ref a c = false ↔ ¬ PartnerAccepted b ref a c := by
  rw [← pairFits_iff, Bool.not_eq_true]

theorem passed_nil (tail : List Candidate) : Passed b ref [] tail := fun p x q h => by
  cases p <;> cases h

theorem passed_cons (d : Candidate) (pre tail : List Candidate) : Passed b ref (d :: pre) tail ↔
    (OuterEligible b d → ∀ y ∈ pre ++ tail, ¬ PartnerAccepted b ref d y) ∧ Passed b ref pre tail := by
  refine ⟨fun h => ⟨h [] d pre rfl, fun p x q e => h (d :: p) x q (congrArg (d :: ·) e)⟩, fun ⟨hd, hpre⟩ p x q e => ?_⟩
  cases p with
  | nil => cases e; exact hd
  | cons y p => cases e; exact hpre p x q rfl

theorem chooseSingle_eq_some_iff {cs : List Candidate} {c : Candidate} : chooseSingle b ref cs = some c ↔
    (candidateEligible b c = true ∧ KeyWithin b ref c.cap) ∧ ∃ pre post, cs = pre ++ c :: post ∧
      ∀ x ∈ pre, ¬ (candidateEligible b x = true ∧ KeyWithin b ref x.cap) := by
  simp only [chooseSingle, List.find?_eq_some_iff_append, Bool.not_eq_true', ← Bool.not_eq_true, Bool.and_eq_true,
    fitsReference_iff]

/-- The outer candidate of a pair takes its first partner, or the search goes on (R122). -/
theorem choosePair_cons (d : Candidate) (l : List Candidate) (a c : Candidate) : choosePair b ref (d :: l) = some (a, c) ↔
    (d = a ∧ OuterEligible b d ∧ l.find? (pairFits b ref d) = some c) ∨
      ((OuterEligible b d → l.find? (pairFits b ref d) = none) ∧ choosePair b ref l = some (a, c)) := by
  have houter : (candidateEligible b d && d.rdc.isSome) = true ↔ OuterEligible b d := by
    rw [Bool.and_eq_true, Option.isSome_iff_ne_none]
    exact Iff.rfl
  by_cases ho : OuterEligible b d
  · rw [choosePair, if_pos (houter.2 ho)]
    cases hf : l.find? (pairFits b ref d) with
    | some e => simp [ho]
    | none => simp
  · rw [choosePair, if_neg (mt houter.1 ho)]
    simp [ho]

theorem choosePair_eq_some_iff {cs : List Candidate} {a c : Candidate} : choosePair b ref cs = some (a, c) ↔
    ∃ pre rest, cs = pre ++ a :: rest ∧ OuterEligible b a ∧ rest.find? (pairFits b ref a) = some c ∧
      Passed b ref pre (a :: rest) := by
  induction cs with
  | nil => exact ⟨nofun, fun ⟨pre, _, h, _⟩ => by cases pre <;> cases h⟩
  | cons d l ih =>
    have hfind : l.find? (pairFits b ref d) = none ↔ ∀ y ∈ l, ¬ PartnerAccepted b ref d y := by
      simp only [List.find?_eq_none, pairFits_iff]
    rw [choosePair_cons, ih, hfind]
    constructor
    · rintro (⟨rfl, ho, hf⟩ | ⟨hd, pre, rest, rfl, ho, hf, hp⟩)
      · exact ⟨[], l, rfl, ho, hf, passed_nil _⟩
      · exact ⟨d :: pre, rest, rfl, ho, hf, (passed_cons ..).2 ⟨hd, hp⟩⟩
    · rintro ⟨pre, rest, h, ho, hf, hp⟩
      cases pre with
      | nil => cases h; exact .inl ⟨rfl, ho, hf⟩
      | cons e pre =>
        cases h
        obtain ⟨hd, hp⟩ := (passed_cons ..).1 hp
        exact .inr ⟨hd, pre, rest, rfl, ho, hf, hp⟩

end

/-- Settles O47: both searches take the first that fits, and the outer search passes an outer candidate only when no
partner after it is accepted. -/
theorem choiceIsGreedy : Obligations.ChoiceIsGreedy := by
  intro b ref cs
  simp only [← candidateEligible_iff]
  refine ⟨fun hk slots key => ?_, fun hk slots key => ?_⟩
  · have hchoose : chooseFor b ref cs = (chooseSingle b ref cs).map fun c => ([c.slot], c.cap) := by
      simp only [chooseFor, hk]
    rw [hchoose, Option.map_eq_some_iff]
    constructor
    · rintro ⟨c, hc, ⟨⟩⟩
      obtain ⟨hfit, pre, post, hcs, hpre⟩ := chooseSingle_eq_some_iff.1 hc
      exact ⟨pre, c, post, hcs, hfit, hpre, rfl, rfl⟩
    · rintro ⟨pre, c, post, hcs, hfit, hpre, rfl, rfl⟩
      exact ⟨c, chooseSingle_eq_some_iff.2 ⟨hfit, pre, post, hcs, hpre⟩, rfl⟩
  · have hchoose : chooseFor b ref cs = (choosePair b ref cs).map fun at_ => ([at_.1.slot, at_.2.slot], at_.1.cap + at_.2.cap) := by
      simp only [chooseFor, hk]
    have hfind : ∀ (rest : List Candidate) (a c : Candidate), rest.find? (pairFits b ref a) = some c ↔
        PartnerAccepted b ref a c ∧ ∃ mid post, rest = mid ++ c :: post ∧ ∀ x ∈ mid, ¬ PartnerAccepted b ref a x := by
      intro rest a c
      simp only [List.find?_eq_some_iff_append, pairFits_iff, Bool.not_eq_true', pairFits_eq_false_iff]
    rw [hchoose, Option.map_eq_some_iff]
    constructor
    · rintro ⟨⟨a, c⟩, hc, ⟨⟩⟩
      obtain ⟨pre, rest, rfl, ho, hf, hp⟩ := choosePair_eq_some_iff.1 hc
      obtain ⟨hac, mid, post, rfl, hmid⟩ := (hfind rest a c).1 hf
      exact ⟨pre, a, mid, c, post, rfl, ho, hac, hmid, hp, rfl, rfl⟩
    · rintro ⟨pre, a, mid, c, post, rfl, ho, hac, hmid, hp, rfl, rfl⟩
      exact ⟨(a, c), choosePair_eq_some_iff.2 ⟨pre, _, rfl, ho, (hfind _ a c).2 ⟨hac, mid, post, rfl, hmid⟩, hp⟩, rfl⟩

end Sys2Proof.Machine
end

section
/-! SUPPORT. The opening and the filling step of a planning run, the key of a position and the fixed reference; the
proof of O46. -/

namespace Sys2Proof.Machine

/-! ## Keys and references (R101, R103) -/

section
variable {s : State} {b : BankString} {pos : Nat} {p q : PlaceNo}

theorem placeNumber_val (p : PlaceNo) : placeNumber p.val = some p := by
  simp [placeNumber, p.isLt]

theorem placesOf_single (hk : b.kind = .single) (hp : p.val = b.first + pos) : b.placesOf pos = [p] := by
  simp only [BankString.placesOf, hk, ← hp, List.filterMap_cons, placeNumber_val, List.filterMap_nil]

theorem placesOf_paired (hk : b.kind = .paired) (hp : p.val = b.first + 2 * pos) (hq : q.val = p.val + 1) :
    b.placesOf pos = [p, q] := by
  simp only [BankString.placesOf, hk, ← hp, ← hq, List.filterMap_cons, placeNumber_val, List.filterMap_nil]

theorem capAt_eq_some_iff (s : State) (p : PlaceNo) (v : Nat) : capAt s p = some v ↔
    ∃ slot m c, s.places[p].slot = some slot ∧ s.slots[slot] = some m ∧ m.figures.cap = some c ∧ c.value = v := by
  simp only [capAt, Option.bind_eq_some_iff, Option.map_eq_some_iff]
  exact ⟨fun ⟨slot, h1, m, h2, c, h3, h4⟩ => ⟨slot, m, c, h1, h2, h3, h4⟩,
    fun ⟨slot, m, c, h1, h2, h3, h4⟩ => ⟨slot, h1, m, h2, c, h3, h4⟩⟩

theorem sumPresent_one (x : Option Nat) : sumPresent [x] = x := by
  cases x <;> rfl

theorem sumPresent_two (x y : Option Nat) (key : Nat) :
    sumPresent [x, y] = some key ↔ ∃ a c, x = some a ∧ y = some c ∧ a + c = key := by
  cases x <;> cases y <;> simp [sumPresent]

theorem findSome?_range_eq_some {α : Type} {f : Nat → Option α} {n : Nat} {v : α} :
    (List.range n).findSome? f = some v ↔ ∃ k, k < n ∧ f k = some v ∧ ∀ j, j < k → f j = none := by
  induction n with
  | zero => simp
  | succ n ih =>
    have hnone : (List.range n).findSome? f = none ↔ ∀ j, j < n → f j = none := by simp
    rw [List.range_succ, List.findSome?_append, Option.or_eq_some_iff, ih, hnone, List.findSome?_singleton]
    constructor
    · rintro (⟨k, hk, h⟩ | ⟨hbelow, hv⟩)
      · exact ⟨k, Nat.lt_succ_of_lt hk, h⟩
      · exact ⟨n, Nat.lt_succ_self n, hv, hbelow⟩
    · rintro ⟨k, hk, hv, hbelow⟩
      rcases Nat.lt_succ_iff_lt_or_eq.1 hk with hk | rfl
      · exact .inl ⟨k, hk, hv, hbelow⟩
      · exact .inr ⟨hbelow, hv⟩

theorem fixedReference_eq_some_iff (s : State) (i : StringNo) (key : Nat) : fixedReference s i = some key ↔
    ∃ pos, pos < s.bank[i].count ∧ positionFixed s i pos = true ∧ positionKey s i pos = some key ∧
      ∀ lower, lower < pos → positionFixed s i lower = true → positionKey s i lower = none := by
  have hsome : ∀ (c : Prop) [Decidable c] (v : Option Nat), (if c then v else none) = some key ↔ c ∧ v = some key := by
    intro c _ v
    split <;> simp [*]
  have hnone : ∀ (c : Prop) [Decidable c] (v : Option Nat), (if c then v else none) = none ↔ (c → v = none) := by
    intro c _ v
    split <;> simp [*]
  simp only [fixedReference, findSome?_range_eq_some, hsome, hnone, and_assoc]

end

/-! ## The opening step (R120) -/

section
variable {s : State} {r : PlanningRun} {c : CurrentString}

theorem nextString_eq_some {bank : BankMap} {last : Option StringNo} {i : StringNo} (he : bank[i].enabled = true)
    (habove : ∀ l, last = some l → l < i)
    (hbelow : ∀ j : StringNo, j < i → bank[j].enabled = true → ∃ l, last = some l ∧ j ≤ l) : nextString bank last = some i := by
  obtain ⟨j, hj⟩ := Option.ne_none_iff_exists'.1 (nextString_ne_none he habove)
  obtain ⟨hje, hjabove, hjbelow⟩ := nextString_some hj
  rcases lt_trichotomy j i with hlt | rfl | hlt
  · obtain ⟨l, hl, hle⟩ := hbelow j hlt hje
    exact absurd (hjabove l hl) (not_lt.2 hle)
  · exact hj
  · obtain ⟨l, hl, hle⟩ := hjbelow i hlt he
    exact absurd (habove l hl) (not_lt.2 hle)

theorem exec_opening_of_next {i : StringNo} (hr : s.run = some r) (hm : r.mode = .running) (hc : r.current = none)
    (hi : nextString s.bank r.lastProcessed = some i) : exec .opening s = .next { s with run := some (openString s r i) } := by
  change execOpening s = _
  simp only [execOpening, hr, hm, hc, hi]

theorem openString_of_wholly {i : StringNo} (h : openPositions s i = []) : openString s r i =
    processed r { string := i, planned := true, reference := fixedReference s i, choices := [] } := by
  simp only [openString, h]

theorem openString_of_open {i : StringNo} (h : openPositions s i ≠ []) : openString s r i =
    { r with current := some { string := i, fixedReference := fixedReference s i, reference := fixedReference s i,
                               toFill := openPositions s i, choices := [] } } := by
  obtain ⟨p, ps, hps⟩ := List.exists_cons_of_ne_nil h
  simp only [openString, hps]

/-! ## The filling step (R121 to R124) -/

theorem markTaken_eq (slots : List SlotNo) (v : Bool) (cs : List Candidate) :
    markTaken slots v cs = cs.map fun d => if d.slot ∈ slots then { d with taken := v } else d := by
  simp only [markTaken, List.contains_iff_mem]

theorem exec_filling_of_running (hr : s.run = some r) (hm : r.mode = .running) (hc : r.current = some c) :
    exec .filling s = .next { s with run := some (fillString s.bank r c) } := by
  change execFilling s = _
  simp only [execFilling, hr, hm, hc]

theorem fillString_of_chosen {bank : BankMap} {pos : Nat} {rest : List Nat} {slots : List SlotNo} {key : Nat}
    (hf : c.toFill = pos :: rest) (h : chooseFor bank[c.string] c.reference r.candidates = some (slots, key)) :
    fillString bank r c = fillPosition r c pos rest slots key := by
  simp only [fillString, hf, h]

theorem fillString_of_failing {bank : BankMap} {pos : Nat} {rest : List Nat} (hf : c.toFill = pos :: rest)
    (h : chooseFor bank[c.string] c.reference r.candidates = none) : fillString bank r c = failString r c := by
  simp only [fillString, hf, h]

theorem reference_or_key (ref : Option Nat) (key : Nat) : ref.or (some key) = if ref = none then some key else ref := by
  cases ref <;> rfl

end

/-- Settles O46: the opening step by `openString`, the filling step by `fillPosition` and `failString`, and the key and
the fixed reference by the places of a position. -/
theorem openingAndFilling : Obligations.OpeningAndFilling := by
  refine ⟨fun s r i hr hm hc he habove hbelow => ?_, fun s r c pos rest hr hm hc hf => ?_, fun s i pos => ?_,
    fixedReference_eq_some_iff⟩
  · have hopen := exec_opening_of_next hr hm hc (nextString_eq_some he habove hbelow)
    refine ⟨fun hnil => ?_, fun hne => ?_⟩
    · rw [hopen, openString_of_wholly hnil]
      rfl
    · rw [hopen, openString_of_open hne]
      rfl
  · have hfill := exec_filling_of_running hr hm hc
    intro choice marked
    refine ⟨fun slots key hchoice => ?_, fun hchoice => ?_⟩
    · have hstep := fillString_of_chosen hf hchoice
      refine ⟨fun hne => ?_, fun hnil => ?_⟩
      · obtain ⟨p, ps, rfl⟩ := List.exists_cons_of_ne_nil hne
        rw [hfill, hstep, fillPosition, reference_or_key, markTaken_eq]
      · subst hnil
        rw [hfill, hstep, fillPosition, reference_or_key, markTaken_eq]
        rfl
    · rw [hfill, fillString_of_failing hf hchoice, failString, markTaken_eq]
      rfl
  · simp only [← capAt_eq_some_iff]
    refine ⟨fun p hk hp key => ?_, fun p q hk hp hq key => ?_⟩
    · rw [positionKey, placesOf_single hk hp, List.map_singleton, sumPresent_one]
    · rw [positionKey, placesOf_paired hk hp hq]
      exact sumPresent_two ..

end Sys2Proof.Machine
end

section
/-! SUPPORT. The completion step of a planning run; the proof of O48. -/

namespace Sys2Proof.Machine

section
variable {s : State} {r : PlanningRun}

theorem exec_completion_of_done (hr : s.run = some r) (hm : r.mode = .running) (hc : r.current = none)
    (hn : nextString s.bank r.lastProcessed = none) :
    exec .completion s = .next (startPorts (if r.disturbed then discardRun r s else adoptRun r s)) := by
  change execCompletion s = _
  simp only [execCompletion, hr, hm, hc, hn]

/-! ## What an assignment of slots to places leaves (R127) -/

theorem assign_of_other {l : List (PlaceNo × SlotNo)} {p : PlaceNo} (h : ∀ k, (p, k) ∉ l) (s : State) :
    (assign l s).places[p] = s.places[p] := by
  unfold assign
  refine List.foldlRecOn (motive := fun u : State => u.places[p] = s.places[p]) l _ rfl fun u hu x hx => ?_
  have hne : x.1 ≠ p := fun e => h x.2 (e ▸ hx)
  rw [updatePlace_place, if_neg hne, hu]

/-- A place that every pair gives the same slot holds that slot. -/
theorem assign_of_agreeing {l : List (PlaceNo × SlotNo)} {p : PlaceNo} {k : SlotNo} (hmem : (p, k) ∈ l)
    (hall : ∀ j, (p, j) ∈ l → j = k) (s : State) : (assign l s).places[p].slot = some k := by
  induction l generalizing s with
  | nil => cases hmem
  | cons x l ih =>
    by_cases hl : (p, k) ∈ l
    · exact ih hl (fun j hj => hall j (List.mem_cons_of_mem _ hj)) _
    · have hx : x = (p, k) := ((List.mem_cons.1 hmem).resolve_right hl).symm
      have hrest : ∀ j, (p, j) ∉ l := fun j hj => hl (hall j (List.mem_cons_of_mem _ hj) ▸ hj)
      subst hx
      refine (congrArg Place.slot (assign_of_other hrest _)).trans ?_
      rw [updatePlace_place, if_pos rfl]

theorem mem_zip_iff {α β : Type} (xs : List α) (ys : List β) (x : α) (y : β) :
    (x, y) ∈ xs.zip ys ↔ ∃ k : Nat, xs[k]? = some x ∧ ys[k]? = some y := by
  simp only [List.mem_iff_getElem?, List.getElem?_zip_eq_some]

/-! ## The string records of an adoption (R127) -/

theorem adoptRecords_of_other {es : List TentativeEntry} {i : StringNo} (h : ∀ e ∈ es, e.string ≠ i) (s : State) :
    (es.foldl adoptRecord s).records[i] = s.records[i] :=
  List.foldlRecOn (motive := fun u : State => u.records[i] = s.records[i]) es _ rfl fun u hu e he => by
    rw [adoptRecord, updateRecord_record, if_neg (h e he), hu]

/-- The last entry of a string gives its record. -/
theorem adoptRecords_of_last {pre post : List TentativeEntry} {e : TentativeEntry} (h : ∀ e' ∈ post, e'.string ≠ e.string)
    (s : State) : ((pre ++ e :: post).foldl adoptRecord s).records[e.string] =
      { state := if e.planned = true then .planned else .short, reference := e.reference, review := 0 } := by
  rw [List.foldl_append, List.foldl_cons, adoptRecords_of_other h, adoptRecord, updateRecord_record, if_pos rfl]

/-! ## An adoption (R127) -/

/-- Some open position of a processed string has the place. -/
def ClearedPlace (s : State) (es : List TentativeEntry) (p : PlaceNo) : Prop :=
  ∃ e ∈ es, ∃ pos ∈ openPositions s e.string, p ∈ s.bank[e.string].placesOf pos

theorem mem_openPositions (s : State) (i : StringNo) (pos : Nat) :
    pos ∈ openPositions s i ↔ pos < s.bank[i].count ∧ positionFixed s i pos = false := by
  simp [openPositions]

/-- The first two passes on the places of the bank. -/
def adoptedPlaces (es : List TentativeEntry) (s : State) : State :=
  assign (pairsOf s.bank es) (es.foldl (fun s e => emptyString s e.string) s)

theorem adoptPlaces_eq (es : List TentativeEntry) (s : State) :
    adoptPlaces es s = es.foldl adoptRecord (adoptedPlaces es s) := by
  have hbank : (es.foldl (fun s e => emptyString s e.string) s).bank = s.bank := by
    simp only [(firstPass_facts es s).1.fields]
  rw [adoptPlaces, secondPass_eq, adoptedPlaces, hbank]

theorem adoptedPlaces_work (es : List TentativeEntry) (s : State) :
    BankWork s (adoptedPlaces es s) ∧ (adoptedPlaces es s).records = s.records := by
  obtain ⟨hfirst, hrecords, -, -⟩ := firstPass_facts es s
  obtain ⟨hsecond, hkept⟩ := assign_work (pairsOf s.bank es) (es.foldl (fun s e => emptyString s e.string) s)
  exact ⟨hfirst.trans hsecond, hkept.trans hrecords⟩

theorem adoptedPlaces_marks (es : List TentativeEntry) (s : State) (p : PlaceNo) :
    (adoptedPlaces es s).places[p].fixed = s.places[p].fixed ∧ (adoptedPlaces es s).places[p].alarm = s.places[p].alarm := by
  obtain ⟨-, -, hmarks, -⟩ := firstPass_facts es s
  obtain ⟨hfixed, halarm⟩ := assign_marks (pairsOf s.bank es) (es.foldl (fun s e => emptyString s e.string) s) p
  exact ⟨hfixed.trans (hmarks p).1, halarm.trans (hmarks p).2⟩

/-- A place that no choice fills keeps its slot, unless the adoption empties it (R127). -/
theorem adoptedPlaces_slot_of_unfilled {es : List TentativeEntry} {p : PlaceNo} (h : ∀ k, (p, k) ∉ pairsOf s.bank es) :
    (ClearedPlace s es p → (adoptedPlaces es s).places[p].slot = none) ∧
    (¬ ClearedPlace s es p → (adoptedPlaces es s).places[p].slot = s.places[p].slot) := by
  obtain ⟨-, -, -, hslot⟩ := firstPass_facts es s
  rw [adoptedPlaces, assign_of_other h, hslot]
  exact ⟨fun hc => if_pos hc, fun hc => if_neg hc⟩

theorem Place.eq_of_fields {x y : Place} (hslot : x.slot = y.slot) (hfixed : x.fixed = y.fixed) (halarm : x.alarm = y.alarm) :
    x = y := by
  cases x
  cases y
  simp_all

/-- The state that an adoption reports on (R127). -/
def adopted (r : PlanningRun) (s : State) : State := { adoptPlaces r.tentative s with run := none }

theorem adopted_eq (r : PlanningRun) (s : State) :
    adopted r s = { s with run := none, places := (adopted r s).places, records := (adopted r s).records } ∧
      (adopted r s).places = (adoptedPlaces r.tentative s).places := by
  have hthird := (thirdPass_facts r.tentative (adoptedPlaces r.tentative s)).1
  have hwork := (adoptedPlaces_work r.tentative s).1
  rw [adopted, adoptPlaces_eq, hthird]
  refine ⟨?_, rfl⟩
  generalize adoptedPlaces r.tentative s = t at hwork
  rw [hwork]

theorem adopted_records (r : PlanningRun) (s : State) :
    (adopted r s).records = (r.tentative.foldl adoptRecord (adoptedPlaces r.tentative s)).records := by
  rw [adopted, adoptPlaces_eq]

theorem notMem_pairsOf {bank : BankMap} {es : List TentativeEntry} {p : PlaceNo}
    (h : ∀ e ∈ es, ∀ c ∈ e.choices, p ∉ bank[e.string].placesOf c.position) (k : SlotNo) : (p, k) ∉ pairsOf bank es :=
  fun hmem => by
    obtain ⟨e, he, c, hc, hzip⟩ := mem_pairsOf.1 hmem
    exact h e he c hc (List.of_mem_zip hzip).1

end

/-- Settles O48: a disturbed run by `discardRun`, an undisturbed one by the three passes of its adoption. -/
theorem completionEndsRun : Obligations.CompletionEndsRun := by
  intro s r hr hm hc hn states rerun
  have hdone := exec_completion_of_done hr hm hc (nextString_eq_none hn)
  refine ⟨fun hd hb => ?_, fun hd hb => ?_, fun hd => ⟨adopted r s, ?_, (adopted_eq r s).1, fun i hi => ?_,
    fun pre e post hes hlast => ?_, fun p => ?_, fun p hfree hfixed => ?_, fun e he pos hpos hopen p hp hfree => ?_,
    fun e he c hc k p i hp hi hall => ?_⟩⟩
  · rw [hdone, if_pos hd, discardRun, if_pos hb]
    rfl
  · rw [hdone, if_pos hd, discardRun, if_neg hb]
    rfl
  · rw [hdone, if_neg (by simp [hd])]
    rfl
  · rw [adopted_records, adoptRecords_of_other hi, (adoptedPlaces_work r.tentative s).2]
  · rw [adopted_records, hes]
    exact adoptRecords_of_last hlast _
  · rw [(adopted_eq r s).2]
    exact adoptedPlaces_marks r.tentative s p
  · have huncleared : ¬ ClearedPlace s r.tentative p := fun ⟨e, he, pos, hpos, hp⟩ => by
      obtain ⟨hlt, hopen⟩ := (mem_openPositions s e.string pos).1 hpos
      exact Bool.false_ne_true (hopen.symm.trans (hfixed e he pos hlt hp))
    obtain ⟨hmark, halarm⟩ := adoptedPlaces_marks r.tentative s p
    rw [(adopted_eq r s).2]
    exact Place.eq_of_fields ((adoptedPlaces_slot_of_unfilled (notMem_pairsOf hfree)).2 huncleared) hmark halarm
  · have hcleared : ClearedPlace s r.tentative p :=
      ⟨e, he, pos, (mem_openPositions s e.string pos).2 ⟨hpos, hopen⟩, hp⟩
    obtain ⟨hmark, halarm⟩ := adoptedPlaces_marks r.tentative s p
    rw [(adopted_eq r s).2]
    exact Place.eq_of_fields ((adoptedPlaces_slot_of_unfilled (notMem_pairsOf hfree)).1 hcleared) hmark halarm
  · rw [(adopted_eq r s).2]
    refine assign_of_agreeing (mem_pairsOf.2 ⟨e, he, c, hc, (mem_zip_iff ..).2 ⟨k, hp, hi⟩⟩) (fun j hj => ?_) _
    obtain ⟨e', he', c', hc', hzip⟩ := mem_pairsOf.1 hj
    obtain ⟨k', hp', hj'⟩ := (mem_zip_iff ..).1 hzip
    exact Option.some.inj (hj'.symm.trans (hall e' he' c' hc' k' hp'))

end Sys2Proof.Machine
end

section
/-! SUPPORT. FIX and UNFIX of one position; the proof of O49. -/

namespace Sys2Proof.Machine

/-! ## Owners, eligibility and records (R95, R110, R5, R6) -/

theorem ownerOf_eq_some_iff {bank : BankMap} (hb : BankSound bank) (p : PlaceNo) (i : StringNo) (pos : Nat) :
    ownerOf bank p = some (i, pos) ↔ bank[i].enabled = true ∧ pos < bank[i].count ∧
      ((bank[i].kind = .single ∧ p.val = bank[i].first + pos) ∨
        (bank[i].kind = .paired ∧ (p.val = bank[i].first + 2 * pos ∨ p.val = bank[i].first + 2 * pos + 1))) := by
  rw [← mem_placesOf]
  exact ⟨ownerOf_owns, fun h => ownsPlace.ownerOf hb h⟩

theorem eligibleIn_iff (mask : BitVec 16) (slot : Slot) :
    eligibleIn mask slot = true ↔ ∃ m, slot = some m ∧ m.state = .graded ∧ mask.getLsbD m.grade = true := by
  cases slot with
  | none => exact ⟨nofun, fun ⟨_, h, _⟩ => by cases h⟩
  | some m =>
    rw [eligibleIn_some]
    exact ⟨fun h => ⟨m, rfl, h⟩, fun ⟨_, e, h⟩ => by cases e; exact h⟩

theorem installRecord_of_graded {m : ModuleRecord} (h : m.state = .graded) :
    installRecord m = { m with state := .installed m.grade false } := if_pos h

theorem releaseRecord_of_installed {m : ModuleRecord} {g : Nat} {d : Bool} (h : m.state = .installed g d) :
    releaseRecord m = { m with state := if m.grade = 0 then .testing else .graded } := by
  simp only [releaseRecord, h]
  rfl

theorem releaseRecord_of_quarantined {m : ModuleRecord} {reason : QuarantineReason} {g : Option Nat}
    (h : m.state = .quarantined reason g) : releaseRecord m = { m with state := .quarantined reason none } := by
  simp only [releaseRecord, h]

/-! ## The orders of FIX and UNFIX (R106, R107, R133) -/

section
variable {t : State} {i : StringNo} {pos : Nat} {string position : Byte} {rest : StringNo → Nat → State → Reply State}

/-- What FIX does with a position that its first three orders let through (R106). -/
def fixRest (i : StringNo) (pos : Nat) (s : State) : Reply State :=
  if positionFixed s i pos then refuse .state s
  else if positionFilled s i pos = false then refuse .empty s
  else accept (fixWithRun i pos s)

/-- What UNFIX does with a position that its first three orders let through (R107). -/
def unfixRest (i : StringNo) (pos : Nat) (s : State) : Reply State :=
  if positionFixed s i pos then accept (unfixWithRun i pos s) else refuse .state s

/-- No run stands in the way of FIX and UNFIX of the string (R133). -/
def FreeOf (t : State) (i : StringNo) : Prop :=
  ∀ r, t.run = some r → r.mode = .held ∧ ∀ cur, r.current = some cur → cur.string ≠ i

theorem isCurrent_iff (r : PlanningRun) (i : StringNo) :
    isCurrent r i = true ↔ ∃ cur, r.current = some cur ∧ cur.string = i := by
  rw [isCurrent, Option.any_eq_true]
  simp only [beq_iff_eq]

theorem isProcessed_iff (r : PlanningRun) (i : StringNo) : isProcessed r i = true ↔ ∃ e ∈ r.tentative, e.string = i := by
  simp [isProcessed]

theorem runRefusal_of_running {r : PlanningRun} (hr : t.run = some r) (hm : r.mode = .running) :
    runRefusal t i = some .busy := by
  simp only [runRefusal, hr, hm]

theorem runRefusal_of_current {r : PlanningRun} {cur : CurrentString} (hr : t.run = some r) (hm : r.mode = .held)
    (hc : r.current = some cur) (hi : cur.string = i) : runRefusal t i = some .active := by
  simp only [runRefusal, hr, hm]
  exact if_pos ((isCurrent_iff r i).2 ⟨cur, hc, hi⟩)

theorem runRefusal_of_free (h : FreeOf t i) : runRefusal t i = none := by
  unfold runRefusal
  cases hr : t.run with
  | none => rfl
  | some r =>
    obtain ⟨hm, hcur⟩ := h r hr
    simp only [hm]
    exact if_neg fun hc => by
      obtain ⟨cur, hc, hi⟩ := (isCurrent_iff r i).1 hc
      exact hcur cur hc hi

theorem withPosition_of_unnamed (h : 8 ≤ string.toNat) : withPosition [string, position] rest t = refuse .range t :=
  dif_neg (Nat.not_lt.2 h)

theorem withPosition_of_string (h : string.toNat = i.val) : withPosition [string, position] rest t =
    if t.bank[i].count ≤ position.toNat then refuse .range t
    else if t.bank[i].enabled = false then refuse .state t
    else
      match runRefusal t i with
      | some o => refuse o t
      | none => rest i position.toNat t := by
  obtain ⟨n, hn⟩ := i
  obtain rfl : string.toNat = n := h
  exact dif_pos hn

theorem withPosition_of_refusal {o : AnswerOutcome} (h : string.toNat = i.val) (hc : ¬ t.bank[i].count ≤ position.toNat)
    (he : t.bank[i].enabled = true) (hr : runRefusal t i = some o) : withPosition [string, position] rest t = refuse o t := by
  rw [withPosition_of_string h, if_neg hc, if_neg ((Bool.not_eq_false _).mpr he), hr]

theorem withPosition_of_free (h : string.toNat = i.val) (hc : ¬ t.bank[i].count ≤ position.toNat)
    (he : t.bank[i].enabled = true) (hf : FreeOf t i) :
    withPosition [string, position] rest t = rest i position.toNat t := by
  rw [withPosition_of_string h, if_neg hc, if_neg ((Bool.not_eq_false _).mpr he), runRefusal_of_free hf]

end

/-! ## What FIX does (R106, R133, R134) -/

section
variable (i : StringNo) (pos : Nat) (t : State)

theorem fixPosition_eq : fixPosition i pos t =
    { t with
      places := (fixPosition i pos t).places
      slots := (fixPosition i pos t).slots
      records := (fixPosition i pos t).records } := by
  have hplaces := updatePlaces_work (t.bank[i].placesOf pos) (fun p => { p with fixed := true }) t
  unfold fixPosition
  generalize updatePlaces (t.bank[i].placesOf pos) (fun p => { p with fixed := true }) t = u at hplaces
  rw [updateSlots_work, hplaces]
  rfl

theorem fixPosition_record (j : StringNo) : (fixPosition i pos t).records[j] =
    if j = i then clearReview pos t.records[i] else t.records[j] := by
  rw [fixPosition, updateRecord_record, updateSlots_work]
  simp only [updatePlaces_records, eq_comm (a := i)]
  split
  · next h => rw [h]
  · rfl

theorem fixWithRun_work : RunWork (fixPosition i pos t) (fixWithRun i pos t) :=
  disturbIfProcessed_work i (strikeSlots (positionSlots t i pos) (fixPosition i pos t))

theorem fixWithRun_tables : (fixWithRun i pos t).places = (fixPosition i pos t).places ∧
    (fixWithRun i pos t).slots = (fixPosition i pos t).slots ∧ (fixWithRun i pos t).records = (fixPosition i pos t).records := by
  rw [fixWithRun_work]
  exact ⟨rfl, rfl, rfl⟩

theorem fixWithRun_eq : fixWithRun i pos t =
    { t with
      places := (fixWithRun i pos t).places
      slots := (fixWithRun i pos t).slots
      records := (fixWithRun i pos t).records
      run := (fixWithRun i pos t).run } := by
  obtain ⟨hplaces, hslots, hrecords⟩ := fixWithRun_tables i pos t
  have hwork : fixWithRun i pos t = { fixPosition i pos t with run := (fixWithRun i pos t).run } := fixWithRun_work i pos t
  rw [hplaces, hslots, hrecords]
  generalize (fixWithRun i pos t).run = run at hwork
  rw [hwork, fixPosition_eq]

theorem fixWithRun_run : (fixWithRun i pos t).run =
    t.run.map fun r => { strikeIn (positionSlots t i pos) r with
      disturbed := (strikeIn (positionSlots t i pos) r).disturbed || isProcessed r i } := by
  obtain ⟨-, hrun, -⟩ := fixPosition_facts i pos t
  rw [fixWithRun, disturbIfProcessed_run, strikeSlots, hrun, Option.map_map]
  rfl

variable {t} {r : PlanningRun}

theorem fixWithRun_run_of_none (h : t.run = none) : (fixWithRun i pos t).run = none := by
  rw [fixWithRun_run, h]
  rfl

/-- A run is struck by FIX, and disturbed for a taken entry or a processed string (R133, R134). -/
theorem fixWithRun_run_of_some (h : t.run = some r) : ∃ d : Bool, (fixWithRun i pos t).run = some { r with
    candidates := r.candidates.map (fun x => if x.slot ∈ positionSlots t i pos then { x with struck := true } else x)
    disturbed := d } ∧
    (d = true ↔ r.disturbed = true ∨ (∃ e ∈ r.tentative, e.string = i) ∨
      ∃ x ∈ r.candidates, x.slot ∈ positionSlots t i pos ∧ x.taken = true) := by
  refine ⟨(strikeIn (positionSlots t i pos) r).disturbed || isProcessed r i, ?_, ?_⟩
  · rw [fixWithRun_run, h]
    simp only [Option.map_some, strikeIn, List.contains_iff_mem]
  · rw [Bool.or_eq_true, isProcessed_iff, strikeIn, Bool.or_eq_true, List.any_eq_true, or_assoc,
      or_comm (b := ∃ e ∈ r.tentative, e.string = i)]
    simp only [Bool.and_eq_true, List.contains_iff_mem]

/-! ## What UNFIX does (R107, R133) -/

theorem unfixWithRun_eq (t : State) : unfixWithRun i pos t =
    { (positionSlots t i pos).foldl (fun s k => applyEligibility k s) (released i pos t) with
      run := (unfixWithRun i pos t).run } := disturbIfProcessed_work i (unfixPosition i pos t)

theorem unfixWithRun_run (t : State) : (unfixWithRun i pos t).run =
    t.run.map fun r => { r with disturbed := r.disturbed || isProcessed r i } := by
  obtain ⟨-, hrun, -⟩ := unfixPosition_facts i pos t
  rw [unfixWithRun, disturbIfProcessed_run, hrun]

end

/-! ## FIX and UNFIX as one directive (R106, R107) -/

/-- Either directive runs its orders on the position that its parameters name. -/
theorem exec_position (unfixing : Bool) (tag string position : Byte) (s : State) :
    exec (if unfixing then Instr.unfix tag [string, position] else Instr.fix tag [string, position]) s =
      .next (runDirective tag (if unfixing then 53 else 52) [string, position] false
        (withPosition [string, position] (if unfixing then unfixRest else fixRest)) s) := by
  cases unfixing <;> rfl

theorem fixOrUnfix_length (unfixing : Bool) (string position : Byte) (m : Nat)
    (h : parameterLength (if unfixing then 53 else 52) = some (some m)) : [string, position].length = m := by
  cases unfixing <;> (cases h; rfl)

/-- Settles O49: the geometry of positions, the eligibility rule by its three outcomes, and each order of FIX and UNFIX
by the clause of `withPosition` that decides it. -/
theorem fixAndUnfix : Obligations.FixAndUnfix := by
  refine ⟨fun b pos p q => ⟨placesOf_single, placesOf_paired⟩, fun bank p hb i pos => ownerOf_eq_some_iff hb p i pos,
    fun s i => ⟨fun p => placeOf_some, placeOf_none⟩, fun s i pos => ⟨positionFixed_iff s i pos, ?_,
      mem_positionSlots s i pos, fun r => ⟨rfl, rfl, clearReview_bit pos r⟩⟩, fun s k q string pos hq hfree howner => ?_,
    fun m => ⟨installRecord_of_graded, fun g d => releaseRecord_of_installed,
      fun reason g => releaseRecord_of_quarantined⟩, ?_⟩
  · simp only [positionFilled_iff, Option.isSome_iff_ne_none]
  · simp only [← eligibleIn_iff]
    refine ⟨applyEligibility_of_eligible hq howner, fun hunfit => ?_⟩
    rw [applyEligibility_of_ineligible hq howner hfree hunfit]
    exact ⟨emptyPosition_left string pos s, emptyPosition_work string pos s⟩
  · intro tag string position s t unfixing code c pos h
    have hexec := exec_position unfixing tag string position s
    have len := fixOrUnfix_length unfixing string position
    have hbank : t.bank = s.bank := by rw [h.1.fields]
    have hplaces : t.places = s.places := by rw [h.1.fields]
    have hslots : t.slots = s.slots := by rw [h.1.fields]
    have hrecords : t.records = s.records := by rw [h.1.fields]
    have hrun : t.run = s.run := by rw [h.1.fields]
    have refused : ∀ o, withPosition [string, position] (if unfixing then unfixRest else fixRest) t = refuse o t →
        exec c s = .next (answered tag code o [] t) := fun o ho =>
      hexec.trans (congrArg Host.Outcome.next (runDirective_refused h len ho))
    have accepted : ∀ u, withPosition [string, position] (if unfixing then unfixRest else fixRest) t = accept u →
        exec c s = .next (answered tag code .done [] u) := fun u hu =>
      hexec.trans (congrArg Host.Outcome.next (runDirective_accepted h len hu))
    refine ⟨fun hs => refused _ (withPosition_of_unnamed hs), fun i hi => ?_⟩
    have hfixed : positionFixed t i pos = positionFixed s i pos := by simp only [positionFixed, hbank, hplaces]
    have hfilled : positionFilled t i pos = positionFilled s i pos := by simp only [positionFilled, hbank, hplaces]
    have hstand : positionSlots t i pos = positionSlots s i pos := by simp only [positionSlots, hbank, hplaces]
    rw [← hrun, ← hbank, ← hplaces, ← hslots, ← hrecords, ← hfixed, ← hfilled, ← hstand]
    have hstring := withPosition_of_string (t := t) (position := position) (rest := if unfixing then unfixRest else fixRest) hi
    refine ⟨fun hc => refused _ (hstring.trans (if_pos hc)), fun hc => ?_⟩
    have hcount : ¬ t.bank[i].count ≤ position.toNat := Nat.not_le.2 hc
    intro free slots processed
    refine ⟨fun he => refused _ (hstring.trans ((if_neg hcount).trans (if_pos he))),
      fun he r hr hm => refused _ (withPosition_of_refusal hi hcount he (runRefusal_of_running hr hm)),
      fun he r cur hr hm hcur hci => refused _ (withPosition_of_refusal hi hcount he (runRefusal_of_current hr hm hcur hci)),
      fun he hf hmark => refused _ ((withPosition_of_free hi hcount he hf).trans ?_), fun hu he hf hmark hfill => ?_,
      fun hu he hf hmark hfill => ?_, fun hu he hf hmark => ?_⟩
    · cases unfixing with
      | false => exact if_pos ((Bool.not_eq_false _).mp hmark)
      | true => exact if_neg hmark
    · subst hu
      exact refused _ ((withPosition_of_free hi hcount he hf).trans ((if_neg (Bool.eq_false_iff.1 hmark)).trans (if_pos hfill)))
    · subst hu
      obtain ⟨hp, hs, hr⟩ := fixWithRun_tables i pos t
      obtain ⟨-, -, -, -, hplace, hslot, -⟩ := fixPosition_facts i pos t
      refine ⟨fixWithRun i pos t, accepted _ ((withPosition_of_free hi hcount he hf).trans ((if_neg (Bool.eq_false_iff.1 hmark)).trans
        (if_neg ((Bool.not_eq_false _).mpr hfill)))), fixWithRun_eq i pos t, ?_, ?_, ?_, fixWithRun_run_of_none i pos, fun r =>
        fixWithRun_run_of_some i pos⟩
      · rw [hp]
        exact hplace
      · rw [hs]
        exact hslot
      · rw [hr]
        exact fixPosition_record i pos t
    · subst hu
      obtain ⟨hframe, hplace, hslot⟩ := released_facts i pos t
      refine ⟨released i pos t, unfixWithRun i pos t, accepted _ ((withPosition_of_free hi hcount he hf).trans (if_pos hmark)),
        hframe, hplace, hslot, unfixWithRun_eq i pos t, fun hr => ?_, fun r hr => ⟨r.disturbed || isProcessed r i, ?_, ?_⟩⟩
      · rw [unfixWithRun_run, hr]
        rfl
      · rw [unfixWithRun_run, hr]
        rfl
      · rw [Bool.or_eq_true, isProcessed_iff]

end Sys2Proof.Machine
end

section
/-! SUPPORT. FIX ALL and UNFIX ALL; the proof of O50. -/

namespace Sys2Proof.Machine

section
variable {t : State}

theorem fixAllRule_of_run (h : t.run ≠ none) : fixAllRule t = refuse .busy t := if_pos (Option.isSome_iff_ne_none.2 h)

theorem unfixAllRule_of_run (h : t.run ≠ none) : unfixAllRule t = refuse .busy t :=
  if_pos (Option.isSome_iff_ne_none.2 h)

theorem fixAllRule_of_free (h : t.run = none) : fixAllRule t =
    { outcome := .done, data := toBytes 1 ((enabledPositions t.bank).foldl fixIfFilled (t, 0)).2,
      state := ((enabledPositions t.bank).foldl fixIfFilled (t, 0)).1 } := by
  have hrun : ¬ t.run.isSome = true := by simp [h]
  exact if_neg hrun

theorem unfixAllRule_of_free (h : t.run = none) : unfixAllRule t =
    { outcome := .done, data := toBytes 1 ((enabledPositions t.bank).foldl unfixIfFixed (t, 0)).2,
      state := ((enabledPositions t.bank).foldl unfixIfFixed (t, 0)).1 } := by
  have hrun : ¬ t.run.isSome = true := by simp [h]
  exact if_neg hrun

end

/-- Settles O50: both are one pass over the positions of the enabled strings, when no run exists. -/
theorem fixAllAndUnfixAll : Obligations.FixAllAndUnfixAll := by
  intro tag s t positions
  have len : ∀ code n, parameterLength code = some (some 0) → parameterLength code = some (some n) →
      ([] : List Byte).length = n := fun _ _ => length_nil_of
  refine ⟨fun hr => ⟨fun h => ?_, fun h => ?_⟩, fun hr => ⟨fun h => ?_, fun h => ?_⟩⟩
  · have hrun : t.run = s.run := by rw [h.1.fields]
    exact congrArg Host.Outcome.next (runDirective_refused h (fun n => len 54 n rfl) (fixAllRule_of_run (hrun ▸ hr)))
  · have hrun : t.run = s.run := by rw [h.1.fields]
    exact congrArg Host.Outcome.next (runDirective_refused h (fun n => len 55 n rfl) (unfixAllRule_of_run (hrun ▸ hr)))
  · have hrun : t.run = s.run := by rw [h.1.fields]
    have hbank : t.bank = s.bank := by rw [h.1.fields]
    have hpositions : enabledPositions t.bank = positions := by
      rw [hbank]
      rfl
    have hrule := fixAllRule_of_free (hrun.trans hr)
    rw [hpositions] at hrule
    exact congrArg Host.Outcome.next (runDirective_told h (fun n => len 54 n rfl) hrule)
  · have hrun : t.run = s.run := by rw [h.1.fields]
    have hbank : t.bank = s.bank := by rw [h.1.fields]
    have hpositions : enabledPositions t.bank = positions := by
      rw [hbank]
      rfl
    have hrule := unfixAllRule_of_free (hrun.trans hr)
    rw [hpositions] at hrule
    exact congrArg Host.Outcome.next (runDirective_told h (fun n => len 55 n rfl) hrule)

end Sys2Proof.Machine
end

section
/-! SUPPORT. Records of fields on the wire and how they read back, and the answers of IDENTIFY and STATUS; the proof of
O30. -/

namespace Sys2Proof.Machine

/-! ## Fields of a record -/

/-- The bytes of fields one after another, each a number in its width. -/
def fieldBytes : List (Nat × Nat) → List Byte
  | [] => []
  | f :: fs => toBytes f.1 f.2 ++ fieldBytes fs

/-- The field that begins at a byte. -/
def fieldFrom : List (Nat × Nat) → Nat → Option (Nat × Nat)
  | [], _ => none
  | f :: fs, i => if i = 0 then some f else if f.1 ≤ i then fieldFrom fs (i - f.1) else none

theorem fieldBytes_length (fs : List (Nat × Nat)) : (fieldBytes fs).length = (fs.map Prod.fst).sum := by
  induction fs with
  | nil => rfl
  | cons f fs ih => rw [fieldBytes, List.length_append, Sys2Proof.Laws.toBytes_length, ih, List.map_cons, List.sum_cons]

theorem foldl_toBytes (n v : Nat) : (toBytes n v).foldl (fun a b => a * 256 + b.toNat) 0 = v % 256 ^ n := by
  induction n generalizing v with
  | zero => simp [toBytes, Nat.mod_one]
  | succ n ih =>
    rw [toBytes, List.foldl_append, ih, List.foldl_cons, List.foldl_nil, BitVec.toNat_ofNat,
      show 256 ^ (n + 1) = 256 * 256 ^ n from Nat.pow_succ', Nat.mod_mul, Nat.mul_comm, Nat.add_comm]

section
variable {fs : List (Nat × Nat)}

/-- The bytes of a field stand where it begins. -/
theorem field_chunk {w v i : Nat} (h : fieldFrom fs i = some (w, v)) : ((fieldBytes fs).drop i).take w = toBytes w v := by
  induction fs generalizing i with
  | nil => cases h
  | cons f fs ih =>
    have hlen := Sys2Proof.Laws.toBytes_length f.1 f.2
    rw [fieldFrom] at h
    split at h
    · next hi =>
      cases h
      rw [hi, List.drop_zero, fieldBytes, List.take_left' hlen]
    · split at h
      · next hi =>
        rw [fieldBytes, List.drop_append, List.drop_eq_nil_of_le (hlen.le.trans hi), List.nil_append, hlen, ih h]
      · cases h

/-- A field reads back the low bytes of its number. -/
theorem unsignedAt_field {w v i m : Nat} (h : fieldFrom fs i = some (w, v)) (hm : 256 ^ w = m) :
    unsignedAt (fieldBytes fs) i w = v % m := by
  rw [unsignedAt, field_chunk h, foldl_toBytes, hm]

theorem unsignedAt_field_of_lt {w v i : Nat} (h : fieldFrom fs i = some (w, v)) (hv : v < 256 ^ w) :
    unsignedAt (fieldBytes fs) i w = v := by
  rw [unsignedAt_field h rfl, Nat.mod_eq_of_lt hv]

theorem byteAt_field {v i : Nat} (h : fieldFrom fs i = some (1, v)) : byteAt (fieldBytes fs) i = v % 256 := by
  rw [← unsignedAt_one]
  exact unsignedAt_field h rfl

theorem byteAt_field_of_lt {v i : Nat} (h : fieldFrom fs i = some (1, v)) (hv : v < 256) : byteAt (fieldBytes fs) i = v := by
  rw [byteAt_field h, Nat.mod_eq_of_lt hv]

/-! ## Signed fields -/

theorem signedOf_emod (w : Nat) (v : Int) : signedOf (w + 1) (v % (256 ^ (w + 1) : Nat)).toNat = v.bmod (256 ^ (w + 1)) := by
  have hpos : (0 : Int) < (256 ^ (w + 1) : Nat) := by exact_mod_cast Nat.pow_pos (n := w + 1) (show 0 < 256 by decide)
  have heven : 256 ^ (w + 1) = 2 * (128 * 256 ^ w) := by ring
  have hnonneg := Int.emod_nonneg v hpos.ne'
  have hlt := Int.emod_lt_of_pos v hpos
  rw [signedOf, Int.bmod_def]
  have hcast : ((256 : Int) ^ (w + 1)) = ((256 ^ (w + 1) : Nat) : Int) := by push_cast; rfl
  rw [hcast]
  rw [heven] at *
  generalize 128 * 256 ^ w = half at *
  split <;> split <;> omega

/-- The low bytes of a signed number. -/
def wrapped (n : Nat) (v : Int) : Nat := (v % (256 ^ n : Nat)).toNat

/-- A signed field reads back its number, wrapped into its width. -/
theorem signedAt_field {n i m : Nat} {v : Int} (h : fieldFrom fs i = some (n, wrapped n v)) (hn : 0 < n)
    (hm : 256 ^ n = m) : signedAt (fieldBytes fs) i n = v.bmod m := by
  obtain ⟨w, rfl⟩ := Nat.exists_eq_succ_of_ne_zero hn.ne'
  subst hm
  have hpos : (0 : Int) < (256 ^ (w + 1) : Nat) := by exact_mod_cast Nat.pow_pos (n := w + 1) (show 0 < 256 by decide)
  have hlt : wrapped (w + 1) v < 256 ^ (w + 1) := by
    have := Int.emod_lt_of_pos v hpos
    rw [wrapped]
    omega
  rw [signedAt, unsignedAt_field_of_lt h hlt, wrapped, signedOf_emod]

end

/-! ## Numbers that may be absent, and marks -/

theorem byteOrNone_eq (v : Option Nat) : byteOrNone v = toBytes 1 (v.getD 255) := by
  cases v <;> rfl

/-- A byte of at most eight marks. -/
theorem markBits_lt_byte {bs : List Bool} (h : bs.length ≤ 8) : markBits bs < 256 :=
  Nat.lt_of_lt_of_le (markBits_lt bs) (Nat.pow_le_pow_right (by decide) h)

/-! ## Engine status (R164) -/

theorem runStateCode_running {r : PlanningRun} (h : r.mode = .running) : runStateCode (some r) = 1 := by
  simp only [runStateCode, h]

theorem runStateCode_held {r : PlanningRun} (h : r.mode = .held) : runStateCode (some r) = 2 := by
  simp only [runStateCode, h]

section
variable (mark : Bool) (s : State)

/-- The marks in byte 7 of the engine status. -/
def statusMarks : List Bool :=
  [s.run.any (·.disturbed), s.window.isSome, s.modified, tableCertified s, s.storeWork.isSome, s.latch, mark,
    s.addressDefaulted]

/-- The current string of the run, if there is one. -/
def currentNumber : Option Nat := (s.run.bind (·.current)).map fun c => c.string.val

/-- The fields of the engine status. -/
def statusFields : List (Nat × Nat) :=
  [(1, engineStateCode s.engine), (1, s.restartCause.code), (2, s.foundValid.toNat), (1, s.installResult.code),
    (1, runStateCode s.run), (1, (currentNumber s).getD 255), (1, markBits (statusMarks mark s)),
    (1, (s.origin.map fun g => g.val + 5).getD 255), (1, s.engineAddress), (2, s.causeFlags.toNat),
    (2, s.reportMask.toNat), (2, s.counters.badCheck), (2, s.counters.malformed), (2, s.counters.upOverflow),
    (2, s.counters.downOverflow), (2, s.counters.directiveOverflow), (2, s.counters.reportOverflow)]

theorem statusMarks_sum : markBit 0 (s.run.any (·.disturbed)) + markBit 1 s.window.isSome + markBit 2 s.modified +
    markBit 3 (tableCertified s) + markBit 4 s.storeWork.isSome + markBit 5 s.latch + markBit 6 mark +
    markBit 7 s.addressDefaulted = markBits (statusMarks mark s) := by
  simp only [statusMarks, markBit_eq, markBits]
  ring_nf

theorem statusBytes_eq : statusBytes mark s = fieldBytes (statusFields mark s) := by
  simp only [statusBytes, statusMarks_sum, byteOrNone_eq, statusFields, fieldBytes, List.append_assoc, List.append_nil,
    currentNumber]

theorem identityBytes_eq : identityBytes s = toBytes 2 3420 ++ [Config.siliconRevision] ++
    toBytes 8 (s.store.identity.elim 0 (·.toNat)) ++ [if s.store.identity = none then 0 else 1] := by
  cases h : s.store.identity <;> simp [identityBytes, h, orZero, Config.partCode] <;> rfl

end

/-- Settles O30: the answers of IDENTIFY and STATUS, each field of the engine status read back from its place. -/
theorem identifyAndStatus : Obligations.IdentifyAndStatus := by
  intro tag s t
  refine ⟨fun h => ⟨s.store.identity.elim 0 (·.toNat), fun v hv => by rw [hv]; rfl, fun hv => by rw [hv]; rfl, ?_⟩,
    fun h hcounters haddress => ⟨statusBytes s.purgeEnable s, ?_, ?_⟩⟩
  · have hdata : identityBytes s ++ toBytes 1 s.engineAddress = identifyBytes t := by
      obtain ⟨q, k, b, rfl⟩ := h.eq_taken
      rfl
    rw [← identityBytes_eq, hdata]
    exact congrArg Host.Outcome.next (runDirective_anyMode h (fun _ => length_nil_of rfl) rfl)
  · have hdata : statusBytes s.purgeEnable s = statusBytes s.purgeEnable t := by
      obtain ⟨q, k, b, rfl⟩ := h.eq_taken
      rfl
    rw [hdata]
    exact congrArg Host.Outcome.next (runDirective_anyMode h (fun _ => length_nil_of rfl) rfl)
  · obtain ⟨hstarted, -⟩ := h
    obtain ⟨hbad, hmal, hup, hdown, hdir, hrep⟩ := hcounters
    have hmarks : byteAt (fieldBytes (statusFields s.purgeEnable s)) 7 = markBits (statusMarks s.purgeEnable s) :=
      byteAt_field_of_lt rfl (markBits_lt_byte (Nat.le_refl 8))
    rw [statusBytes_eq, hmarks]
    refine ⟨by simp [fieldBytes_length, statusFields], ?_, ?_, unsignedAt_field_of_lt rfl ?_, ?_, fun hr => ?_, fun r hr hm => ?_,
      fun r hr hm => ?_, fun hr => ?_, fun r cur hr hc => ?_, fun r hr hc => ?_, fun g hg => ?_, fun hg => ?_,
      testBit_markBits _ 0, testBit_markBits _ 1, testBit_markBits _ 2, testBit_markBits _ 3, testBit_markBits _ 4,
      testBit_markBits _ 5, testBit_markBits _ 6, testBit_markBits _ 7, byteAt_field_of_lt rfl ?_,
      unsignedAt_field_of_lt rfl ?_, unsignedAt_field_of_lt rfl ?_,
      unsignedAt_field_of_lt rfl ?_, unsignedAt_field_of_lt rfl ?_,
      unsignedAt_field_of_lt rfl ?_, unsignedAt_field_of_lt rfl ?_,
      unsignedAt_field_of_lt rfl ?_, unsignedAt_field_of_lt rfl ?_⟩
    · rw [byteAt_field rfl]
      cases he : s.engine with
      | starting => exact absurd he hstarted
      | active => rfl
      | bypass => rfl
    · rw [byteAt_field rfl]
      cases s.restartCause <;> rfl
    · exact Nat.lt_trans s.foundValid.isLt (by decide)
    · rw [byteAt_field rfl]
      cases s.installResult <;> rfl
    · rw [byteAt_field rfl, hr]
      rfl
    · rw [byteAt_field rfl, hr, runStateCode_running hm]
    · rw [byteAt_field rfl, hr, runStateCode_held hm]
    · rw [byteAt_field rfl, currentNumber, hr]
      rfl
    · rw [byteAt_field rfl, currentNumber, hr, Option.bind_some, hc]
      exact Nat.mod_eq_of_lt (Nat.lt_trans cur.string.isLt (by decide))
    · rw [byteAt_field rfl, currentNumber, hr, Option.bind_some, hc]
      rfl
    · rw [byteAt_field rfl, hg]
      exact Nat.mod_eq_of_lt (Nat.lt_trans (Nat.add_lt_add_right g.isLt 5) (by decide))
    · rw [byteAt_field rfl, hg]
      rfl
    · exact Nat.lt_of_le_of_lt haddress (by decide)
    · exact Nat.lt_trans s.causeFlags.isLt (by decide)
    · exact Nat.lt_trans s.reportMask.isLt (by decide)
    · exact Nat.lt_succ_of_le hbad
    · exact Nat.lt_succ_of_le hmal
    · exact Nat.lt_succ_of_le hup
    · exact Nat.lt_succ_of_le hdown
    · exact Nat.lt_succ_of_le hdir
    · exact Nat.lt_succ_of_le hrep

end Sys2Proof.Machine
end

section
/-! SUPPORT. The read-out forms of the tables and the payloads of the reports; the proof of O28. -/

namespace Sys2Proof.Machine

/-! ## Parts of the fields -/

theorem unsignedAt_chunk (bs : List Byte) (o : Nat) {i n w : Nat} (h : i + n ≤ w) :
    unsignedAt bs (o + i) n = unsignedAt ((bs.drop o).take w) i n := by
  rw [unsignedAt, unsignedAt, List.drop_take, List.take_take, List.drop_drop,
    Nat.min_eq_left (Nat.le_sub_of_add_le' h)]

/-- The number that some bytes spell. -/
def numberOf (bs : List Byte) : Nat := bs.foldl (fun a b => a * 256 + b.toNat) 0

theorem toBytes_numberOf (bs : List Byte) : toBytes bs.length (numberOf bs) = bs := by
  induction bs using List.reverseRecOn with
  | nil => rfl
  | append_singleton bs b ih =>
    have hnumber : numberOf (bs ++ [b]) = numberOf bs * 256 + b.toNat := by simp [numberOf]
    have hb := b.isLt
    have hdiv : (numberOf bs * 256 + b.toNat) / 256 = numberOf bs := by omega
    have hlow : BitVec.ofNat 8 (numberOf bs * 256 + b.toNat) = b := by
      apply BitVec.eq_of_toNat_eq
      rw [BitVec.toNat_ofNat]
      omega
    rw [hnumber, List.length_append, List.length_singleton, toBytes, hdiv, ih, hlow]

theorem toBytes_numberOf_of_length {bs : List Byte} {n : Nat} (h : bs.length = n) : toBytes n (numberOf bs) = bs := by
  rw [← h, toBytes_numberOf]

/-! ## Numbers and marks that may be absent -/

theorem orZero_map {α : Type} (o : Option α) (f : α → Nat) : orZero (o.map f) = o.elim 0 f := by
  cases o <;> rfl

theorem getD_map_eq_elim {α β : Type} (o : Option α) (f : α → β) (d : β) : (o.map f).getD d = o.elim d f := by
  cases o <;> rfl

theorem byteOrNone_map {α : Type} (o : Option α) (f : α → Nat) : byteOrNone (o.map f) = toBytes 1 (o.elim 255 f) := by
  rw [byteOrNone_eq, getD_map_eq_elim]

theorem markBit_zero (b : Bool) : markBit 0 b = b.toNat := by
  cases b <;> rfl

theorem markBits_two (a b : Bool) : markBits [a, b] = a.toNat + 2 * b.toNat := by
  simp only [markBits]
  ring

theorem markBits_three (a b c : Bool) : markBits [a, b, c] = a.toNat + 2 * b.toNat + 4 * c.toNat := by
  simp only [markBits]
  ring

theorem markBits_four (a b c d : Bool) :
    markBits [a, b, c, d] = a.toNat + 2 * b.toNat + 4 * c.toNat + 8 * d.toNat := by
  simp only [markBits]
  ring

theorem markBits_five (a b c d e : Bool) :
    markBits [a, b, c, d, e] = a.toNat + 2 * b.toNat + 4 * c.toNat + 8 * d.toNat + 16 * e.toNat := by
  simp only [markBits]
  ring

/-- A byte field of marks reads back as their sum. -/
theorem byteAt_marks {fs : List (Nat × Nat)} {i : Nat} {bs : List Bool} (h : fieldFrom fs i = some (1, markBits bs))
    (hl : bs.length ≤ 8) : byteAt (fieldBytes fs) i = markBits bs :=
  byteAt_field_of_lt h (markBits_lt_byte hl)

theorem byteAt_mark {fs : List (Nat × Nat)} {i : Nat} {b : Bool} (h : fieldFrom fs i = some (1, b.toNat)) :
    byteAt (fieldBytes fs) i = b.toNat :=
  byteAt_field_of_lt h (Nat.lt_trans (Bool.toNat_lt b) (by decide))

theorem vector_getD_fin {α : Type} {n : Nat} (v : Vector α n) (k : Fin n) (d : α) : v[k.val]?.getD d = v[k] := by
  simp

theorem range_four : List.range 4 = [0, 1, 2, 3] := rfl

/-! ## The fields of each table entry (spec/12) -/

theorem intBytes_eq (n : Nat) (v : Int) : intBytes n v = toBytes n (wrapped n v) := rfl

/-- Profiles (table 1). -/
def profileFields (p : Profile) : List (Nat × Nat) :=
  [(1, p.valid.toNat), (2, p.fullMark), (2, p.emptyMark), (2, p.hardHigh), (2, p.hardLow), (2, p.restThreshold),
    (3, p.stepMinimum), (2, p.stepInterval), (2, p.settleTime), (3, p.restWindow), (2, p.maxGap), (1, p.gapAllowance),
    (2, wrapped 2 p.hardTemperature)]

theorem profileBytes_eq (p : Profile) : profileBytes p = fieldBytes (profileFields p) := by
  simp only [profileBytes, profileForm, profileFields, fieldBytes, intBytes_eq, markBit_zero, List.append_assoc,
    List.append_nil]

/-- Curve points (table 2). -/
def curveFields (c : CurvePoint) : List (Nat × Nat) :=
  [(1, c.written.toNat), (2, wrapped 2 c.temperature), (2, c.factor)]

theorem curveBytes_eq (c : CurvePoint) : curveBytes c = fieldBytes (curveFields c) := by
  simp only [curveBytes, curveFields, fieldBytes, intBytes_eq, markBit_zero, List.append_assoc, List.append_nil]

/-- The marks of a criterion. -/
def criterionMarks (c : Criterion) : List Bool :=
  [c.predicate.less, c.predicate.equal, c.predicate.greater, c.predicate.unknown, c.strict]

/-- A criterion of a grade row. -/
def criterionFields (c : Criterion) : List (Nat × Nat) :=
  [(1, c.figure.code), (1, markBits (criterionMarks c)), (3, wrapped 3 c.threshold)]

theorem predicateByte_eq (c : Criterion) : predicateByte c = markBits (criterionMarks c) := by
  simp only [predicateByte, criterionMarks, markBits_five, markBit_eq]
  ring

theorem criterionBytes_eq (c : Criterion) : criterionBytes (some c) = fieldBytes (criterionFields c) := by
  simp only [criterionBytes, criterionFields, fieldBytes, predicateByte_eq, intBytes_eq, List.append_assoc, List.append_nil]

theorem criterionBytes_length (c : Option Criterion) : (criterionBytes c).length = 5 := by
  cases c with
  | none => rfl
  | some c => rw [criterionBytes_eq, fieldBytes_length]; rfl

/-- Grade rows (table 3), each criterion place as one field. -/
def gradeRowFields (r : GradeRow) : List (Nat × Nat) :=
  [(1, r.enabled.toNat), (1, r.code), (1, r.families.toNat), (1, r.criteria.length),
    (5, numberOf (criterionBytes r.criteria[0]?)), (5, numberOf (criterionBytes r.criteria[1]?)),
    (5, numberOf (criterionBytes r.criteria[2]?)), (5, numberOf (criterionBytes r.criteria[3]?))]

theorem gradeRowBytes_eq (r : GradeRow) : gradeRowBytes r = fieldBytes (gradeRowFields r) := by
  simp only [gradeRowBytes, gradeRowFields, fieldBytes, range_four, List.flatMap_cons, List.flatMap_nil, toBytes_numberOf_of_length (criterionBytes_length _),
    markBit_zero, List.append_assoc, List.append_nil]

/-- Strings of the bank map (table 4). -/
def bankStringFields (b : BankString) : List (Nat × Nat) :=
  [(1, b.enabled.toNat), (1, b.family.val), (1, if b.kind = .paired then 1 else 0), (1, b.first), (1, b.count),
    (2, b.gradeMask.toNat), (2, b.capTolerance), (2, b.pairTolerance)]

theorem bankStringBytes_eq (b : BankString) : bankStringBytes b = fieldBytes (bankStringFields b) := by
  have hkind : markBit 0 (b.kind == .paired) = if b.kind = .paired then 1 else 0 := by
    cases b.kind <;> rfl
  simp only [bankStringBytes, bankStringFields, fieldBytes, hkind, markBit_zero, List.append_assoc, List.append_nil]

/-- Node register entries (table 5). -/
def nodeFields (k : Nat) (e : NodeEntry) : List (Nat × Nat) :=
  [(1, k + 1), (1, markBits [e.lastTick.isSome, e.lastArrival.isSome, e.silent]), (2, e.lastTick.getD 0),
    (4, e.lastArrival.getD 0), (2, e.sampleFrames), (2, e.malformed)]

theorem nodeBytes_eq (k : Nat) (e : NodeEntry) : nodeBytes k e = fieldBytes (nodeFields k e) := by
  have hmarks : markBit 0 e.lastTick.isSome + markBit 1 e.lastArrival.isSome + markBit 2 e.silent =
      markBits [e.lastTick.isSome, e.lastArrival.isSome, e.silent] := by
    simp only [markBits_three, markBit_eq]
    ring
  simp only [nodeBytes, nodeFields, fieldBytes, hmarks, orZero, List.append_assoc, List.append_nil]

/-- String records (table 7). -/
def stringRecordFields (i : Nat) (r : StringRecord) : List (Nat × Nat) :=
  [(1, i), (1, r.state.code), (1, r.reference.isSome.toNat), (3, r.reference.getD 0), (2, r.review.toNat)]

theorem stringRecordBytes_eq (i : Nat) (r : StringRecord) : stringRecordBytes i r = fieldBytes (stringRecordFields i r) := by
  simp only [stringRecordBytes, stringRecordFields, fieldBytes, orZero, markBit_zero, List.append_assoc, List.append_nil]

/-- The identity entry (table 8). -/
def identityFields (s : State) : List (Nat × Nat) :=
  [(2, 3420), (1, Config.siliconRevision.toNat), (8, s.store.identity.elim 0 (·.toNat)), (1, s.store.identity.isSome.toNat)]

theorem identityBytes_fields (s : State) : identityBytes s = fieldBytes (identityFields s) := by
  have hrevision : [Config.siliconRevision] = toBytes 1 Config.siliconRevision.toNat := by
    rw [toBytes_one, BitVec.ofNat_toNat, BitVec.setWidth_eq]
  simp only [identityBytes, identityFields, fieldBytes, hrevision, orZero_map, markBit_zero, Config.partCode,
    List.append_assoc, List.append_nil]

/-- The settings (table 9). -/
def settingsFields (c : Settings) : List (Nat × Nat) :=
  [(1, c.bootImage), (1, c.addressSource.toNat), (1, c.storedAddress.toNat), (2, c.silenceTimeout), (1, c.autoRerun),
    (2, c.defaultMask.toNat)]

theorem settingsBytes_eq (c : Settings) : settingsBytes c = fieldBytes (settingsFields c) := by
  simp only [settingsBytes, settingsFields, fieldBytes, List.append_assoc, List.append_nil]

end Sys2Proof.Machine
end

section
/-! SUPPORT. The slot record on the wire and the read-out of every table; the proof of O28. -/

namespace Sys2Proof.Machine

/-! ## The slot record (spec/12, 84 bytes) -/

/-- The presence marks of a slot record. -/
def presenceMarks (m : ModuleRecord) (place : Option PlaceNo) : List Bool :=
  [m.figures.cap.isSome, m.figures.soh.isSome, m.figures.rdc.isSome, m.figures.sdr.isSome, m.figures.tmax.isSome,
    m.gradeRow.isSome, m.state.installedGrade.isSome, m.state.drift.isSome, place.isSome, m.state.reason.isSome,
    m.tracker.previous.isSome, m.tracker.run.isSome, m.tracker.window.isSome]

/-- The marks of the figures. -/
def figureMarks (f : Figures) : List Bool :=
  [f.cap.any (·.clipped), f.cap.any (·.saturated), f.soh.any (·.saturated), f.rdc.any (·.saturated),
    f.sdr.any (·.saturated)]

/-- The marks of the step list. -/
def stepMarks (f : Figures) : List Bool :=
  [f.steps[0]?.any (·.saturated), f.steps[1]?.any (·.saturated), f.steps[2]?.any (·.saturated),
    f.steps[3]?.any (·.saturated)]

/-- The start voltage of a rest window that has one. -/
def windowStart (t : Tracker) : Option Nat := t.window.bind fun w => w.stage.startVoltage

/-- Bytes 24 to 44. -/
def figureFields (f : Figures) : List (Nat × Nat) :=
  [(2, f.cap.elim 0 (·.value)), (2, f.soh.elim 0 (·.value)), (2, f.rdc.elim 0 (·.value)), (2, f.sdr.elim 0 (·.value)),
    (2, wrapped 2 (f.tmax.getD 0)), (1, f.steps.length), (1, markBits (figureMarks f)),
    (2, f.steps[0]?.elim 0 (·.value)), (2, f.steps[1]?.elim 0 (·.value)), (2, f.steps[2]?.elim 0 (·.value)),
    (2, f.steps[3]?.elim 0 (·.value)), (1, markBits (stepMarks f))]

/-- Bytes 52 to 83. -/
def trackerFields (t : Tracker) : List (Nat × Nat) :=
  [(3, t.previous.elim 0 (·.voltage)), (3, wrapped 3 (t.previous.elim 0 (·.current))),
    (2, wrapped 2 (t.previous.elim 0 (·.temperature))), (2, t.previous.elim 0 (·.tick)), (1, phaseCode t.phase),
    (1, markBits [t.previous.any (·.clipped), t.run.any (·.clipped)]), (7, wrapped 7 (t.run.elim 0 (·.accumulator))),
    (3, t.run.elim 0 (·.minVoltage)), (1, t.run.elim 0 (·.gaps)), (1, (windowStart t).isSome.toNat),
    (4, t.window.elim 0 (·.elapsed)), (3, (windowStart t).getD 0), (1, t.window.elim 0 (·.gaps))]

/-- Bytes 0 to 51, the tag as one field. -/
def headFields (i : SlotNo) (m : ModuleRecord) (place : Option PlaceNo) : List (Nat × Nat) :=
  [(1, i.val), (1, slotStateCode (some m)), (2, markBits (presenceMarks m place)), (16, numberOf m.tag),
    (1, m.family.val), (1, m.cells), (2, m.rated)] ++ figureFields m.figures ++
  [(1, m.grade), (1, m.gradeRow.elim 0 (·.val)), (1, m.state.installedGrade.getD 0),
    (1, markBits [m.state.drift.getD false, m.restored, m.tracker.charged]), (1, place.elim 0 (·.val)),
    (1, m.state.reason.elim 0 (·.code)), (1, m.completedRuns)]

/-- The fields of an occupied slot record. -/
def slotFields (i : SlotNo) (m : ModuleRecord) (place : Option PlaceNo) : List (Nat × Nat) :=
  headFields i m place ++ trackerFields m.tracker

theorem fieldBytes_append (fs gs : List (Nat × Nat)) : fieldBytes (fs ++ gs) = fieldBytes fs ++ fieldBytes gs := by
  induction fs with
  | nil => rfl
  | cons f fs ih => rw [List.cons_append, fieldBytes, fieldBytes, ih, List.append_assoc]

theorem presenceBits_eq (m : ModuleRecord) (place : Option PlaceNo) :
    presenceBits m place = markBits (presenceMarks m place) := by
  simp only [presenceBits, presenceMarks, markBit_eq, markBits]
  ring_nf

theorem figureBytes_eq (f : Figures) : figureBytes f = fieldBytes (figureFields f) := by
  have hmarks : markBit 0 (f.cap.any (·.clipped)) + markBit 1 (f.cap.any (·.saturated)) +
      markBit 2 (f.soh.any (·.saturated)) + markBit 3 (f.rdc.any (·.saturated)) +
      markBit 4 (f.sdr.any (·.saturated)) = markBits (figureMarks f) := by
    simp only [figureMarks, markBits_five, markBit_eq]
    ring
  have hstepMarks : ((List.range 4).map fun k => markBit k (f.steps[k]?.any (·.saturated))).sum =
      markBits (stepMarks f) := by
    simp only [range_four, List.map_cons, List.map_nil, List.sum_cons, List.sum_nil, stepMarks, markBits_four, markBit_eq]
    ring
  rw [figureBytes, hmarks, hstepMarks]
  simp only [figureFields, fieldBytes, range_four, List.flatMap_cons, List.flatMap_nil, orZero_map, intBytes_eq, List.append_assoc,
    List.append_nil]

theorem windowStart_isSome (t : Tracker) :
    (t.window.any fun w => w.stage.startVoltage.isSome) = (windowStart t).isSome := by
  unfold windowStart
  cases t.window <;> rfl

theorem trackerBytes_eq (t : Tracker) :
    previousBytes t ++ (runBytes t.run ++ windowBytes t.window) = fieldBytes (trackerFields t) := by
  have hmarks : markBit 0 (t.previous.any (·.clipped)) + markBit 1 (t.run.any (·.clipped)) =
      markBits [t.previous.any (·.clipped), t.run.any (·.clipped)] := by
    simp only [markBits_two, markBit_eq]
    ring
  have hstart : orZero (t.window.bind fun w => w.stage.startVoltage) = (windowStart t).getD 0 := rfl
  rw [previousBytes, runBytes, windowBytes, hmarks, hstart, windowStart_isSome]
  simp only [trackerFields, fieldBytes, orZero_map, getD_map_eq_elim, intBytes_eq, markBit_zero, List.append_assoc, List.append_nil]

theorem slotRecordBytes_of_vacant {s : State} {i : SlotNo} (h : s.slots[i] = none) :
    slotRecordBytes s i = BitVec.ofNat 8 i.val :: List.replicate 83 0 := by
  simp only [slotRecordBytes, h]
  rfl

theorem slotRecordBytes_of_record {s : State} {i : SlotNo} {m : ModuleRecord} (h : s.slots[i] = some m)
    (htag : m.tag.length = 16) : slotRecordBytes s i = fieldBytes (slotFields i m (placeOf s i)) := by
  have hmarks : markBit 0 (m.state.drift.getD false) + markBit 1 m.restored + markBit 2 m.tracker.charged =
      markBits [m.state.drift.getD false, m.restored, m.tracker.charged] := by
    simp only [markBits_three, markBit_eq]
    ring
  have hgrade : orZero m.state.installedGrade = m.state.installedGrade.getD 0 := rfl
  simp only [slotRecordBytes, h, moduleBytes, slotFields, headFields, fieldBytes_append, fieldBytes, hmarks, hgrade,
    figureBytes_eq, ← trackerBytes_eq, presenceBits_eq, toBytes_numberOf_of_length htag, orZero_map,
    List.append_assoc, List.append_nil]

/-! ## The entry of each table -/

section
variable (s : State)

theorem entryBytes_profile (k : Fin 4) : entryBytes s 1 k = fieldBytes (profileFields s.profiles[k]) := by
  rw [entryBytes, vector_getD_fin, profileBytes_eq]

theorem entryBytes_curve (k : Fin 32) : entryBytes s 2 k = fieldBytes (curveFields s.curves[k]) := by
  rw [entryBytes, vector_getD_fin, curveBytes_eq]

theorem entryBytes_gradeRow (k : Fin 16) : entryBytes s 3 k = fieldBytes (gradeRowFields s.rows[k]) := by
  rw [entryBytes, vector_getD_fin, gradeRowBytes_eq]

theorem entryBytes_bankString (k : Fin 8) : entryBytes s 4 k = fieldBytes (bankStringFields s.bank[k]) := by
  rw [entryBytes, vector_getD_fin, bankStringBytes_eq]

theorem entryBytes_node (k : Fin 16) : entryBytes s 5 k = fieldBytes (nodeFields k s.nodes[k]) := by
  rw [entryBytes, vector_getD_fin, nodeBytes_eq]

theorem entryBytes_slot (i : SlotNo) : entryBytes s 6 i = slotRecordBytes s i := dif_pos i.isLt

theorem entryBytes_stringRecord (i : StringNo) :
    entryBytes s 7 (64 + i.val) = fieldBytes (stringRecordFields i s.records[i]) := by
  rw [entryBytes, dif_neg (by omega), Nat.add_sub_cancel_left, vector_getD_fin, stringRecordBytes_eq]

end

theorem toBytes_two_low (v : Nat) : toBytes 2 v = [BitVec.ofNat 8 (v / 256), BitVec.ofNat 8 (v % 256)] := by
  have hlow : BitVec.ofNat 8 (v % 256) = BitVec.ofNat 8 v := by
    apply BitVec.eq_of_toNat_eq
    simp
  rw [toBytes_two, hlow]

theorem flatMap_toBytes_one (states : List StringState) :
    (states.flatMap fun t => toBytes 1 t.code) = states.map fun t => BitVec.ofNat 8 t.code := by
  induction states with
  | nil => rfl
  | cons t states ih => rw [List.flatMap_cons, ih, List.map_cons, toBytes_one, List.singleton_append]

/-! ## Reading the fields back -/

theorem gradeRow_criterion (r : GradeRow) (j : Fin 4) :
    ((fieldBytes (gradeRowFields r)).drop (4 + 5 * j.val)).take 5 = criterionBytes r.criteria[j.val]? := by
  have hfield : fieldFrom (gradeRowFields r) (4 + 5 * j.val) = some (5, numberOf (criterionBytes r.criteria[j.val]?)) := by
    match j with
    | 0 | 1 | 2 | 3 => rfl
  rw [field_chunk hfield, toBytes_numberOf_of_length (criterionBytes_length _)]

/-- A criterion that a row has reads back from its place. -/
theorem gradeRow_criterion_fields {r : GradeRow} {j : Fin 4} {c : Criterion} (h : r.criteria[j.val]? = some c)
    {i n : Nat} (hi : i + n ≤ 5) : unsignedAt (fieldBytes (gradeRowFields r)) (4 + 5 * j.val + i) n =
      unsignedAt (fieldBytes (criterionFields c)) i n := by
  rw [unsignedAt_chunk _ _ hi, gradeRow_criterion, h, criterionBytes_eq]

theorem figureCode_lt (k : FigureKind) : k.code < 256 := by
  cases k <;> decide

theorem fieldFrom_append {fs : List (Nat × Nat)} (hpos : ∀ f ∈ fs, 0 < f.1) (gs : List (Nat × Nat)) (k : Nat) :
    fieldFrom (fs ++ gs) ((fs.map Prod.fst).sum + k) = fieldFrom gs k := by
  induction fs with
  | nil => rw [List.map_nil, List.sum_nil, Nat.zero_add, List.nil_append]
  | cons f fs ih =>
    have hf := hpos f List.mem_cons_self
    rw [List.cons_append, fieldFrom, List.map_cons, List.sum_cons, if_neg (by omega), if_pos (by omega), Nat.add_assoc,
      Nat.add_sub_cancel_left, ih fun g hg => hpos g (List.mem_cons_of_mem _ hg)]

/-- The tracker begins at byte 52 of a slot record. -/
theorem slotFields_tracker (i : SlotNo) (m : ModuleRecord) (place : Option PlaceNo) (k : Nat) :
    fieldFrom (slotFields i m place) (52 + k) = fieldFrom (trackerFields m.tracker) k := by
  have hwidth : ((headFields i m place).map Prod.fst).sum = 52 := by simp [headFields, figureFields]
  rw [slotFields, ← hwidth]
  exact fieldFrom_append (by simp [headFields, figureFields]) _ k

theorem slotStateCode_lt (slot : Slot) : slotStateCode slot < 256 := by
  cases slot with
  | none => decide
  | some m =>
    simp only [slotStateCode]
    cases m.state <;> simp

/-- Every field of an occupied slot record reads back (R179). -/
theorem slotFields_read (i : SlotNo) (m : ModuleRecord) (place : Option PlaceNo) (htag : m.tag.length = 16)
    (hsteps : m.figures.steps.length ≤ 4) :
    let b := fieldBytes (slotFields i m place)
    let f := m.figures
    let t := m.tracker
    b.length = 84 ∧ byteAt b 0 = i.val ∧ byteAt b 1 = slotStateCode (some m) ∧
    unsignedAt b 2 2 = f.cap.isSome.toNat + 2 * f.soh.isSome.toNat + 4 * f.rdc.isSome.toNat +
      8 * f.sdr.isSome.toNat + 16 * f.tmax.isSome.toNat + 32 * m.gradeRow.isSome.toNat +
      64 * m.state.installedGrade.isSome.toNat + 128 * m.state.drift.isSome.toNat + 256 * place.isSome.toNat +
      512 * m.state.reason.isSome.toNat + 1024 * t.previous.isSome.toNat + 2048 * t.run.isSome.toNat +
      4096 * t.window.isSome.toNat ∧
    (b.drop 4).take 16 = m.tag ∧ byteAt b 20 = m.family.val ∧ byteAt b 21 = m.cells % 256 ∧
    unsignedAt b 22 2 = m.rated % 65536 ∧
    unsignedAt b 24 2 = f.cap.elim 0 (·.value) % 65536 ∧ unsignedAt b 26 2 = f.soh.elim 0 (·.value) % 65536 ∧
    unsignedAt b 28 2 = f.rdc.elim 0 (·.value) % 65536 ∧ unsignedAt b 30 2 = f.sdr.elim 0 (·.value) % 65536 ∧
    signedAt b 32 2 = (f.tmax.getD 0).bmod 65536 ∧ byteAt b 34 = f.steps.length ∧
    byteAt b 35 = (f.cap.any (·.clipped)).toNat + 2 * (f.cap.any (·.saturated)).toNat +
      4 * (f.soh.any (·.saturated)).toNat + 8 * (f.rdc.any (·.saturated)).toNat +
      16 * (f.sdr.any (·.saturated)).toNat ∧
    (∀ j : Fin 4, unsignedAt b (36 + 2 * j.val) 2 = f.steps[j.val]?.elim 0 (·.value) % 65536) ∧
    byteAt b 44 = (f.steps[0]?.any (·.saturated)).toNat + 2 * (f.steps[1]?.any (·.saturated)).toNat +
      4 * (f.steps[2]?.any (·.saturated)).toNat + 8 * (f.steps[3]?.any (·.saturated)).toNat ∧
    byteAt b 45 = m.grade % 256 ∧ byteAt b 46 = m.gradeRow.elim 0 (·.val) ∧
    byteAt b 47 = m.state.installedGrade.getD 0 % 256 ∧
    byteAt b 48 = (m.state.drift.getD false).toNat + 2 * m.restored.toNat + 4 * t.charged.toNat ∧
    byteAt b 49 = place.elim 0 (·.val) ∧ byteAt b 50 = m.state.reason.elim 0 (·.code) ∧
    byteAt b 51 = m.completedRuns % 256 ∧
    unsignedAt b 52 3 = t.previous.elim 0 (·.voltage) % 2 ^ 24 ∧
    signedAt b 55 3 = (t.previous.elim 0 (·.current)).bmod (2 ^ 24) ∧
    signedAt b 58 2 = (t.previous.elim 0 (·.temperature)).bmod 65536 ∧
    unsignedAt b 60 2 = t.previous.elim 0 (·.tick) % 65536 ∧ byteAt b 62 = phaseCode t.phase ∧
    byteAt b 63 = (t.previous.any (·.clipped)).toNat + 2 * (t.run.any (·.clipped)).toNat ∧
    signedAt b 64 7 = (t.run.elim 0 (·.accumulator)).bmod (2 ^ 56) ∧
    unsignedAt b 71 3 = t.run.elim 0 (·.minVoltage) % 2 ^ 24 ∧ byteAt b 74 = t.run.elim 0 (·.gaps) % 256 ∧
    byteAt b 75 = (windowStart t).isSome.toNat ∧ unsignedAt b 76 4 = t.window.elim 0 (·.elapsed) % 2 ^ 32 ∧
    unsignedAt b 80 3 = (windowStart t).getD 0 % 2 ^ 24 ∧ byteAt b 83 = t.window.elim 0 (·.gaps) % 256 := by
  have hpresence : markBits (presenceMarks m place) < 256 ^ 2 :=
    Nat.lt_of_lt_of_le (markBits_lt _) (by simp [presenceMarks])
  have hrow : m.gradeRow.elim 0 (·.val) < 256 := by
    cases m.gradeRow with
    | none => decide
    | some r => exact Nat.lt_trans r.isLt (by decide)
  have hplace : place.elim 0 (·.val) < 256 := by
    cases place with
    | none => decide
    | some p => exact Nat.lt_trans p.isLt (by decide)
  have hreason : m.state.reason.elim 0 (·.code) < 256 := by
    cases m.state.reason with
    | none => decide
    | some r => cases r <;> decide
  have hphase : phaseCode m.tracker.phase < 256 := by
    cases m.tracker.phase <;> decide
  have tracked : ∀ {k w v}, fieldFrom (trackerFields m.tracker) k = some (w, v) →
      fieldFrom (slotFields i m place) (52 + k) = some (w, v) := fun {k _ _} h => (slotFields_tracker i m place k).trans h
  refine ⟨?_, byteAt_field_of_lt rfl (Nat.lt_trans i.isLt (by decide)), byteAt_field_of_lt rfl (slotStateCode_lt _),
    (unsignedAt_field_of_lt rfl hpresence).trans ?_, (field_chunk rfl).trans (toBytes_numberOf_of_length htag),
    byteAt_field_of_lt rfl (Nat.lt_trans m.family.isLt (by decide)), byteAt_field rfl, unsignedAt_field rfl rfl,
    unsignedAt_field rfl rfl, unsignedAt_field rfl rfl, unsignedAt_field rfl rfl, unsignedAt_field rfl rfl,
    signedAt_field rfl (by decide) rfl, byteAt_field_of_lt rfl (Nat.lt_of_le_of_lt hsteps (by decide)),
    (byteAt_marks rfl (by simp)).trans (markBits_five ..), fun j => ?_,
    (byteAt_marks rfl (by simp)).trans (markBits_four ..), byteAt_field rfl, byteAt_field_of_lt rfl hrow,
    byteAt_field rfl, (byteAt_marks rfl (by simp)).trans (markBits_three ..), byteAt_field_of_lt rfl hplace,
    byteAt_field_of_lt rfl hreason, byteAt_field rfl, unsignedAt_field (tracked (k := 0) rfl) rfl,
    signedAt_field (tracked (k := 3) rfl) (by decide) rfl, signedAt_field (tracked (k := 6) rfl) (by decide) rfl, unsignedAt_field (tracked (k := 8) rfl) rfl,
    byteAt_field_of_lt (tracked (k := 10) rfl) hphase, (byteAt_marks (tracked (k := 11) rfl) (by simp)).trans (markBits_two ..),
    signedAt_field (tracked (k := 12) rfl) (by decide) rfl, unsignedAt_field (tracked (k := 19) rfl) rfl, byteAt_field (tracked (k := 22) rfl),
    byteAt_mark (tracked (k := 23) rfl), unsignedAt_field (tracked (k := 24) rfl) rfl, unsignedAt_field (tracked (k := 28) rfl) rfl, byteAt_field (tracked (k := 31) rfl)⟩
  · simp [fieldBytes_length, slotFields, headFields, figureFields, trackerFields]
  · simp only [presenceMarks, markBits]
    ring_nf
  · match j with
    | 0 | 1 | 2 | 3 => exact unsignedAt_field rfl rfl

/-- Settles O28: each read-out form is its list of fields, and each field reads back from the byte where it begins. -/
theorem readOutBytes : Obligations.ReadOutBytes := by
  unfold Obligations.ReadOutBytes
  intro byte
  refine ⟨by decide, fun s k => ?_, fun s k => ?_, fun s k => ?_, fun s k => ?_, fun s k => ?_, fun s k => ?_,
    fun s i hi => ?_, fun s i m hm htag hsteps => ?_, fun s p => ?_, fun s i => ?_, fun s => ?_, fun s => ?_,
    fun i o n row => ?_, fun i set => ?_, fun i reason g => ?_, fun i ig g mark => ?_, fun i row place => ?_,
    fun outcome rerun states => ?_, fun node nodes => ?_, fun operation image => ?_, fun cause valid install => ?_,
    fun kinds => ?_⟩
  · rw [entryBytes, vector_getD_fin, slotMapBytes, byteOrNone_map]
    rfl
  · rw [entryBytes_profile]
    exact ⟨by simp [fieldBytes_length, profileFields], byteAt_mark rfl, unsignedAt_field rfl rfl, unsignedAt_field rfl rfl,
      unsignedAt_field rfl rfl, unsignedAt_field rfl rfl, unsignedAt_field rfl rfl, unsignedAt_field rfl rfl,
      unsignedAt_field rfl rfl, unsignedAt_field rfl rfl, unsignedAt_field rfl rfl, unsignedAt_field rfl rfl,
      byteAt_field rfl, signedAt_field rfl (by decide) rfl⟩
  · rw [entryBytes_curve]
    exact ⟨by simp [fieldBytes_length, curveFields], byteAt_mark rfl, signedAt_field rfl (by decide) rfl, unsignedAt_field rfl rfl⟩
  · rw [entryBytes_gradeRow]
    refine ⟨by simp [fieldBytes_length, gradeRowFields], byteAt_mark rfl, byteAt_field rfl,
      byteAt_field_of_lt rfl (Nat.lt_trans (s.rows[k].families).isLt (by decide)), byteAt_field rfl, fun j =>
      ⟨fun hj => ?_, fun c hc => ⟨?_, ?_, ?_⟩⟩⟩
    · rw [gradeRow_criterion, hj]
      rfl
    · rw [← unsignedAt_one]
      refine (gradeRow_criterion_fields hc (i := 0) (by decide)).trans ?_
      exact unsignedAt_field_of_lt rfl (figureCode_lt c.figure)
    · have hplace : 5 + 5 * j.val = 4 + 5 * j.val + 1 := by omega
      rw [hplace, ← unsignedAt_one, gradeRow_criterion_fields hc (by decide), unsignedAt_one, byteAt_marks rfl (by simp [criterionMarks])]
      exact markBits_five ..
    · have hplace : 6 + 5 * j.val = 4 + 5 * j.val + 2 := by omega
      rw [hplace, signedAt, gradeRow_criterion_fields hc (by decide)]
      exact signedAt_field rfl (by decide) rfl
  · rw [entryBytes_bankString]
    refine ⟨by simp [fieldBytes_length, bankStringFields], byteAt_mark rfl,
      byteAt_field_of_lt rfl (Nat.lt_trans (s.bank[k].family).isLt (by decide)), byteAt_field_of_lt rfl ?_, byteAt_field rfl,
      byteAt_field rfl, unsignedAt_field_of_lt rfl (s.bank[k].gradeMask).isLt, unsignedAt_field rfl rfl,
      unsignedAt_field rfl rfl⟩
    split <;> decide
  · rw [entryBytes_node]
    exact ⟨by simp [fieldBytes_length, nodeFields], byteAt_field_of_lt rfl (by omega),
      (byteAt_marks rfl (by simp)).trans (markBits_three ..), unsignedAt_field rfl rfl, unsignedAt_field rfl rfl,
      unsignedAt_field rfl rfl, unsignedAt_field rfl rfl⟩
  · rw [entryBytes_slot, slotRecordBytes_of_vacant hi]
  · intro b f t state installedGrade drift reason start
    have hb : b = fieldBytes (slotFields i m (placeOf s i)) :=
      (entryBytes_slot s i).trans (slotRecordBytes_of_record hm htag)
    have hstate : state = slotStateCode (some m) := by
      cases hs : m.state <;> simp only [state, slotStateCode, hs]
    have hgrade : installedGrade = m.state.installedGrade := by
      cases hs : m.state <;> simp only [installedGrade, ModuleState.installedGrade, hs]
    have hdrift : drift = m.state.drift := by
      cases hs : m.state <;> simp only [drift, ModuleState.drift, hs]
    have hreason : reason = m.state.reason := by
      cases hs : m.state <;> simp only [reason, ModuleState.reason, hs]
    have hstart : start = windowStart t := by
      simp only [start, windowStart]
      cases t.window with
      | none => rfl
      | some w => cases w with | mk stage _ _ => cases stage <;> rfl
    rw [hb, hstate, hgrade, hdrift, hreason, hstart]
    exact slotFields_read i m (placeOf s i) htag hsteps
  · have hentry : entryBytes s 7 p = placeBytes s p := dif_pos p.isLt
    have hmarks : markBit 0 s.places[p].fixed + markBit 1 s.places[p].alarm =
        s.places[p].fixed.toNat + 2 * s.places[p].alarm.toNat := by rw [markBit_zero, markBit_eq, Nat.pow_one]
    rw [hentry, placeBytes, byteOrNone_map, byteOrNone_map, byteOrNone_map, hmarks]
    rfl
  · rw [entryBytes_stringRecord]
    refine ⟨by simp [fieldBytes_length, stringRecordFields], byteAt_field_of_lt rfl (Nat.lt_trans i.isLt (by decide)),
      byteAt_field_of_lt rfl ?_, byteAt_mark rfl, unsignedAt_field rfl rfl, unsignedAt_field_of_lt rfl (s.records[i].review).isLt⟩
    cases s.records[i].state <;> decide
  · have hrevision : (identityBytes s)[2]? = some Config.siliconRevision := by
      rw [identityBytes_eq]
      rfl
    have hentry : entryBytes s 8 0 = identityBytes s := rfl
    rw [hentry]
    refine ⟨?_, ?_, hrevision, ?_, ?_⟩
    all_goals rw [identityBytes_fields]
    · simp [fieldBytes_length, identityFields]
    · exact unsignedAt_field_of_lt rfl (by decide)
    · refine unsignedAt_field_of_lt rfl ?_
      cases s.store.identity with
      | none => decide
      | some v => exact v.isLt
    · exact byteAt_mark rfl
  · have hentry : entryBytes s 9 0 = fieldBytes (settingsFields s.settings) := settingsBytes_eq s.settings
    rw [hentry]
    exact ⟨by simp [fieldBytes_length, settingsFields], byteAt_field rfl,
      byteAt_field_of_lt rfl (Nat.lt_trans s.settings.addressSource.isLt (by decide)),
      byteAt_field_of_lt rfl (Nat.lt_trans s.settings.storedAddress.isLt (by decide)), unsignedAt_field rfl rfl,
      byteAt_field rfl, unsignedAt_field_of_lt rfl (Nat.lt_trans s.settings.defaultMask.isLt (by decide))⟩
  · rw [reportPayload, reportContent, byteOrNone_map row]
    rfl
  · rfl
  · rfl
  · rw [reportPayload, reportContent, markBit_zero]
    rfl
  · rfl
  · rw [reportPayload, reportContent, markBit_zero, flatMap_toBytes_one states]
    rfl
  · rw [reportPayload, reportContent, toBytes_two_low]
    rfl
  · rfl
  · rw [reportPayload, reportContent, toBytes_two_low]
    rfl
  · rw [reportPayload, reportContent, toBytes_two, Nat.div_eq_of_lt kinds.isLt]
    rfl

end Sys2Proof.Machine
end
